-- ==== Sys2Proof/Word.lean ====
section
/-! DEFINITION. The word types of the block (00_scope.md R14, R16, R81, R83). All values are unsigned. -/

namespace Sys2Proof

/-- One byte of a scanline buffer: one pixel (R12). -/
abbrev Byte := BitVec 8

/-- A host-bus data value (R81). -/
abbrev Word := BitVec 32

/-- A host-bus byte address, or a DMA byte offset (R80). -/
abbrev Addr := BitVec 16

/-- A tick count or line count (R14). -/
abbrev Count := BitVec 16

end Sys2Proof
end

