-- ==== Sys2Proof/Config.lean ====
section
/-! DEFINITION. What an implementation fixes (00_scope.md R11 to R13), the identification constants (R3, R67), and the
one free value of the model: the bytes of a scanline buffer that nothing has written since reset (10_state.md R61). -/

namespace Sys2Proof

/-- The parameters of one implementation (R11, R12, R13). They are fixed for the machine: no operation changes them. -/
structure Params where
  /-- NBUF, the number of scanline buffers (R11). -/
  nbuf : Nat
  /-- BUF_BYTES, the bytes of each buffer (R12). -/
  bufBytes : Nat
  /-- BLANK, the byte read outside the valid range (R13). -/
  blank : Byte
  deriving DecidableEq, Repr

/-- The ranges R11 and R12 give the parameters; BLANK takes any value (R13). -/
def Params.wf (p : Params) : Bool :=
  decide (2 ≤ p.nbuf) && decide (p.nbuf ≤ 8) && decide (1 ≤ p.bufBytes) && decide (p.bufBytes ≤ 4096)

/-- The defaults of R11 to R13. -/
def Params.default : Params := ⟨2, 800, 0x00#8⟩

/-- The constant the register ID reads: the ASCII bytes "HLTF" (R3, R67). -/
def idWord : Word := 0x484C5446#32

/-- The spec version the register PARAM gives in bits 7:4 (R3, R67). -/
def specVersion : Nat := 1

/-- FREE VALUE (log entry 2): `Config.freeByte n a` is what the buffer byte at host-bus address `a` holds after the
`n`-th reset, until something writes it. R61 and R361 leave it unspecified ("a model draws each byte"). It has no body,
so nothing can be proved about its value. -/
opaque Config.freeByte : Nat → Nat → Byte

end Sys2Proof
end

