-- ==== Sys2Proof/Syntax.lean ====
section
/-! DEFINITION. The operations of the block (30_encoding.md R110 to R122): one constructor of `Instr` for each mnemonic of
spec/opcode_table.json, and the two forms in which an operation is spelled. -/

namespace Sys2Proof

/-- The access sizes of a host-bus transaction: 1, 2 or 4 bytes (20_memory.md R81, 30_encoding.md R114). -/
inductive Size where
  | byte
  | half
  | word
  deriving DecidableEq, Repr

/-- The host-bus registers (10_state.md R67). -/
inductive HostReg where
  | id
  | param
  | cmd
  | status
  | err
  | rmReq
  | rmDone
  | htim0
  | htim1
  | vtim0
  | vtim1
  | syncSa
  | saTol
  | line
  | frame
  | seq
  | cnt
  | wdog
  | timer
  | bufstat (b : Fin 8)
  | buftag (b : Fin 8)
  | bufline (b : Fin 8)
  deriving DecidableEq, Repr

/-- One spelled operation: a 64-bit transaction word, or a 32-bit command word as the host writes it to CMD
(30_encoding.md R110, R111, R120; log entry 7). -/
inductive OpWord where
  | txn (w : BitVec 64)
  | cmd (w : BitVec 32)
  deriving DecidableEq, Repr

/-- The operations, one constructor for each mnemonic of spec/opcode_table.json. -/
inductive Instr where
  /-- `TICK`. One tick of the time base (40_horizontal_fsm.md R150). -/
  | tick
  /-- `HWR`. A host-bus write no more specific row covers (43_front_end.md R272; 20_memory.md R86, R87). -/
  | hwr (sz : Size) (addr : Addr) (data : Word)
  /-- `HRD`. A host-bus read no more specific row covers (43_front_end.md R271; 20_memory.md R86, R87). -/
  | hrd (sz : Size) (addr : Addr)
  /-- `DRD`. A transfer-engine read of one byte (42_buffer_controller.md R246). -/
  | drd (off : Addr)
  /-- `LTSVC`. The line handler services a line-timer firing (40_horizontal_fsm.md R160). -/
  | ltsvc
  /-- `SASVC`. The shock absorber services its timer firing (41_resync_arbiter.md R200). -/
  | sasvc
  /-- `RST`. Reset (70_reset_and_hazards.md R361). -/
  | rst
  /-- `PERIPH`. The peripheral-availability input takes a value (43_front_end.md R299). -/
  | periph (v : Bool)
  /-- `RESERVED_OP`. A reserved TXN operation code, reported invalid (30_encoding.md R113). -/
  | reservedOp (code : BitVec 8)
  /-- `HWR.SZ3`. A write of the reserved size (30_encoding.md R116). -/
  | hwrSz3
  /-- `HRD.SZ3`. A read of the reserved size (30_encoding.md R116). -/
  | hrdSz3
  /-- `HWR.ID`. A word write to ID (read-only: 43_front_end.md R273). -/
  | hwrId (data : Word)
  /-- `HRD.ID`. A word read of ID (43_front_end.md R270). -/
  | hrdId
  /-- `HWR.PARAM`. A word write to PARAM (read-only: 43_front_end.md R273). -/
  | hwrParam (data : Word)
  /-- `HRD.PARAM`. A word read of PARAM (43_front_end.md R270). -/
  | hrdParam
  /-- `HWR.CMD`. A word write to CMD (43_front_end.md R279). -/
  | hwrCmd (data : Word)
  /-- `HRD.CMD`. A word read of CMD (43_front_end.md R270). -/
  | hrdCmd
  /-- `HWR.STATUS`. A word write to STATUS (read-only: 43_front_end.md R273). -/
  | hwrStatus (data : Word)
  /-- `HRD.STATUS`. A word read of STATUS (43_front_end.md R270). -/
  | hrdStatus
  /-- `HWR.ERR`. A word write to ERR (43_front_end.md R274). -/
  | hwrErr (data : Word)
  /-- `HRD.ERR`. A word read of ERR (43_front_end.md R270). -/
  | hrdErr
  /-- `HWR.RM_REQ`. A word write to RM_REQ (read-only: 43_front_end.md R273). -/
  | hwrRmReq (data : Word)
  /-- `HRD.RM_REQ`. A word read of RM_REQ (43_front_end.md R270). -/
  | hrdRmReq
  /-- `HWR.RM_DONE`. A word write to RM_DONE (42_buffer_controller.md R236). -/
  | hwrRmDone (data : Word)
  /-- `HRD.RM_DONE`. A word read of RM_DONE (43_front_end.md R270). -/
  | hrdRmDone
  /-- `HWR.HTIM0`. A word write to HTIM0 (43_front_end.md R276). -/
  | hwrHtim0 (data : Word)
  /-- `HRD.HTIM0`. A word read of HTIM0 (43_front_end.md R270). -/
  | hrdHtim0
  /-- `HWR.HTIM1`. A word write to HTIM1 (43_front_end.md R276). -/
  | hwrHtim1 (data : Word)
  /-- `HRD.HTIM1`. A word read of HTIM1 (43_front_end.md R270). -/
  | hrdHtim1
  /-- `HWR.VTIM0`. A word write to VTIM0 (43_front_end.md R276). -/
  | hwrVtim0 (data : Word)
  /-- `HRD.VTIM0`. A word read of VTIM0 (43_front_end.md R270). -/
  | hrdVtim0
  /-- `HWR.VTIM1`. A word write to VTIM1 (43_front_end.md R276). -/
  | hwrVtim1 (data : Word)
  /-- `HRD.VTIM1`. A word read of VTIM1 (43_front_end.md R270). -/
  | hrdVtim1
  /-- `HWR.SYNC_SA`. A word write to SYNC_SA (43_front_end.md R276). -/
  | hwrSyncSa (data : Word)
  /-- `HRD.SYNC_SA`. A word read of SYNC_SA (43_front_end.md R270). -/
  | hrdSyncSa
  /-- `HWR.SA_TOL`. A word write to SA_TOL (43_front_end.md R276). -/
  | hwrSaTol (data : Word)
  /-- `HRD.SA_TOL`. A word read of SA_TOL (43_front_end.md R270). -/
  | hrdSaTol
  /-- `HWR.LINE`. A word write to LINE (read-only: 43_front_end.md R273). -/
  | hwrLine (data : Word)
  /-- `HRD.LINE`. A word read of LINE (43_front_end.md R270). -/
  | hrdLine
  /-- `HWR.FRAME`. A word write to FRAME (read-only: 43_front_end.md R273). -/
  | hwrFrame (data : Word)
  /-- `HRD.FRAME`. A word read of FRAME (43_front_end.md R270). -/
  | hrdFrame
  /-- `HWR.SEQ`. A word write to SEQ (read-only: 43_front_end.md R273). -/
  | hwrSeq (data : Word)
  /-- `HRD.SEQ`. A word read of SEQ (43_front_end.md R270). -/
  | hrdSeq
  /-- `HWR.CNT`. A word write to CNT (read-only: 43_front_end.md R273). -/
  | hwrCnt (data : Word)
  /-- `HRD.CNT`. A word read of CNT (43_front_end.md R270). -/
  | hrdCnt
  /-- `HWR.WDOG`. A word write to WDOG (read-only: 43_front_end.md R273). -/
  | hwrWdog (data : Word)
  /-- `HRD.WDOG`. A word read of WDOG (43_front_end.md R270). -/
  | hrdWdog
  /-- `HWR.TIMER`. A word write to TIMER (read-only: 43_front_end.md R273). -/
  | hwrTimer (data : Word)
  /-- `HRD.TIMER`. A word read of TIMER (43_front_end.md R270). -/
  | hrdTimer
  /-- `HWR.BUFSTAT[0]`. A word write to BUFSTAT[0] (read-only: 43_front_end.md R273). -/
  | hwrBufstat0 (data : Word)
  /-- `HRD.BUFSTAT[0]`. A word read of BUFSTAT[0] (43_front_end.md R270). -/
  | hrdBufstat0
  /-- `HWR.BUFTAG[0]`. A word write to BUFTAG[0] (read-only: 43_front_end.md R273). -/
  | hwrBuftag0 (data : Word)
  /-- `HRD.BUFTAG[0]`. A word read of BUFTAG[0] (43_front_end.md R270). -/
  | hrdBuftag0
  /-- `HWR.BUFLINE[0]`. A word write to BUFLINE[0] (read-only: 43_front_end.md R273). -/
  | hwrBufline0 (data : Word)
  /-- `HRD.BUFLINE[0]`. A word read of BUFLINE[0] (43_front_end.md R270). -/
  | hrdBufline0
  /-- `HWR.BUFSTAT[1]`. A word write to BUFSTAT[1] (read-only: 43_front_end.md R273). -/
  | hwrBufstat1 (data : Word)
  /-- `HRD.BUFSTAT[1]`. A word read of BUFSTAT[1] (43_front_end.md R270). -/
  | hrdBufstat1
  /-- `HWR.BUFTAG[1]`. A word write to BUFTAG[1] (read-only: 43_front_end.md R273). -/
  | hwrBuftag1 (data : Word)
  /-- `HRD.BUFTAG[1]`. A word read of BUFTAG[1] (43_front_end.md R270). -/
  | hrdBuftag1
  /-- `HWR.BUFLINE[1]`. A word write to BUFLINE[1] (read-only: 43_front_end.md R273). -/
  | hwrBufline1 (data : Word)
  /-- `HRD.BUFLINE[1]`. A word read of BUFLINE[1] (43_front_end.md R270). -/
  | hrdBufline1
  /-- `HWR.BUFSTAT[2]`. A word write to BUFSTAT[2] (read-only: 43_front_end.md R273). -/
  | hwrBufstat2 (data : Word)
  /-- `HRD.BUFSTAT[2]`. A word read of BUFSTAT[2] (43_front_end.md R270). -/
  | hrdBufstat2
  /-- `HWR.BUFTAG[2]`. A word write to BUFTAG[2] (read-only: 43_front_end.md R273). -/
  | hwrBuftag2 (data : Word)
  /-- `HRD.BUFTAG[2]`. A word read of BUFTAG[2] (43_front_end.md R270). -/
  | hrdBuftag2
  /-- `HWR.BUFLINE[2]`. A word write to BUFLINE[2] (read-only: 43_front_end.md R273). -/
  | hwrBufline2 (data : Word)
  /-- `HRD.BUFLINE[2]`. A word read of BUFLINE[2] (43_front_end.md R270). -/
  | hrdBufline2
  /-- `HWR.BUFSTAT[3]`. A word write to BUFSTAT[3] (read-only: 43_front_end.md R273). -/
  | hwrBufstat3 (data : Word)
  /-- `HRD.BUFSTAT[3]`. A word read of BUFSTAT[3] (43_front_end.md R270). -/
  | hrdBufstat3
  /-- `HWR.BUFTAG[3]`. A word write to BUFTAG[3] (read-only: 43_front_end.md R273). -/
  | hwrBuftag3 (data : Word)
  /-- `HRD.BUFTAG[3]`. A word read of BUFTAG[3] (43_front_end.md R270). -/
  | hrdBuftag3
  /-- `HWR.BUFLINE[3]`. A word write to BUFLINE[3] (read-only: 43_front_end.md R273). -/
  | hwrBufline3 (data : Word)
  /-- `HRD.BUFLINE[3]`. A word read of BUFLINE[3] (43_front_end.md R270). -/
  | hrdBufline3
  /-- `HWR.BUFSTAT[4]`. A word write to BUFSTAT[4] (read-only: 43_front_end.md R273). -/
  | hwrBufstat4 (data : Word)
  /-- `HRD.BUFSTAT[4]`. A word read of BUFSTAT[4] (43_front_end.md R270). -/
  | hrdBufstat4
  /-- `HWR.BUFTAG[4]`. A word write to BUFTAG[4] (read-only: 43_front_end.md R273). -/
  | hwrBuftag4 (data : Word)
  /-- `HRD.BUFTAG[4]`. A word read of BUFTAG[4] (43_front_end.md R270). -/
  | hrdBuftag4
  /-- `HWR.BUFLINE[4]`. A word write to BUFLINE[4] (read-only: 43_front_end.md R273). -/
  | hwrBufline4 (data : Word)
  /-- `HRD.BUFLINE[4]`. A word read of BUFLINE[4] (43_front_end.md R270). -/
  | hrdBufline4
  /-- `HWR.BUFSTAT[5]`. A word write to BUFSTAT[5] (read-only: 43_front_end.md R273). -/
  | hwrBufstat5 (data : Word)
  /-- `HRD.BUFSTAT[5]`. A word read of BUFSTAT[5] (43_front_end.md R270). -/
  | hrdBufstat5
  /-- `HWR.BUFTAG[5]`. A word write to BUFTAG[5] (read-only: 43_front_end.md R273). -/
  | hwrBuftag5 (data : Word)
  /-- `HRD.BUFTAG[5]`. A word read of BUFTAG[5] (43_front_end.md R270). -/
  | hrdBuftag5
  /-- `HWR.BUFLINE[5]`. A word write to BUFLINE[5] (read-only: 43_front_end.md R273). -/
  | hwrBufline5 (data : Word)
  /-- `HRD.BUFLINE[5]`. A word read of BUFLINE[5] (43_front_end.md R270). -/
  | hrdBufline5
  /-- `HWR.BUFSTAT[6]`. A word write to BUFSTAT[6] (read-only: 43_front_end.md R273). -/
  | hwrBufstat6 (data : Word)
  /-- `HRD.BUFSTAT[6]`. A word read of BUFSTAT[6] (43_front_end.md R270). -/
  | hrdBufstat6
  /-- `HWR.BUFTAG[6]`. A word write to BUFTAG[6] (read-only: 43_front_end.md R273). -/
  | hwrBuftag6 (data : Word)
  /-- `HRD.BUFTAG[6]`. A word read of BUFTAG[6] (43_front_end.md R270). -/
  | hrdBuftag6
  /-- `HWR.BUFLINE[6]`. A word write to BUFLINE[6] (read-only: 43_front_end.md R273). -/
  | hwrBufline6 (data : Word)
  /-- `HRD.BUFLINE[6]`. A word read of BUFLINE[6] (43_front_end.md R270). -/
  | hrdBufline6
  /-- `HWR.BUFSTAT[7]`. A word write to BUFSTAT[7] (read-only: 43_front_end.md R273). -/
  | hwrBufstat7 (data : Word)
  /-- `HRD.BUFSTAT[7]`. A word read of BUFSTAT[7] (43_front_end.md R270). -/
  | hrdBufstat7
  /-- `HWR.BUFTAG[7]`. A word write to BUFTAG[7] (read-only: 43_front_end.md R273). -/
  | hwrBuftag7 (data : Word)
  /-- `HRD.BUFTAG[7]`. A word read of BUFTAG[7] (43_front_end.md R270). -/
  | hrdBuftag7
  /-- `HWR.BUFLINE[7]`. A word write to BUFLINE[7] (read-only: 43_front_end.md R273). -/
  | hwrBufline7 (data : Word)
  /-- `HRD.BUFLINE[7]`. A word read of BUFLINE[7] (43_front_end.md R270). -/
  | hrdBufline7
  /-- `HWR.BUF[0]`. A write into the window of buffer 0 (42_buffer_controller.md R240). -/
  | hwrBuf0 (sz : Size) (off : BitVec 12) (data : Word)
  /-- `HRD.BUF[0]`. A read from the window of buffer 0 (42_buffer_controller.md R243). -/
  | hrdBuf0 (sz : Size) (off : BitVec 12)
  /-- `HWR.BUF[1]`. A write into the window of buffer 1 (42_buffer_controller.md R240). -/
  | hwrBuf1 (sz : Size) (off : BitVec 12) (data : Word)
  /-- `HRD.BUF[1]`. A read from the window of buffer 1 (42_buffer_controller.md R243). -/
  | hrdBuf1 (sz : Size) (off : BitVec 12)
  /-- `HWR.BUF[2]`. A write into the window of buffer 2 (42_buffer_controller.md R240). -/
  | hwrBuf2 (sz : Size) (off : BitVec 12) (data : Word)
  /-- `HRD.BUF[2]`. A read from the window of buffer 2 (42_buffer_controller.md R243). -/
  | hrdBuf2 (sz : Size) (off : BitVec 12)
  /-- `HWR.BUF[3]`. A write into the window of buffer 3 (42_buffer_controller.md R240). -/
  | hwrBuf3 (sz : Size) (off : BitVec 12) (data : Word)
  /-- `HRD.BUF[3]`. A read from the window of buffer 3 (42_buffer_controller.md R243). -/
  | hrdBuf3 (sz : Size) (off : BitVec 12)
  /-- `HWR.BUF[4]`. A write into the window of buffer 4 (42_buffer_controller.md R240). -/
  | hwrBuf4 (sz : Size) (off : BitVec 12) (data : Word)
  /-- `HRD.BUF[4]`. A read from the window of buffer 4 (42_buffer_controller.md R243). -/
  | hrdBuf4 (sz : Size) (off : BitVec 12)
  /-- `HWR.BUF[5]`. A write into the window of buffer 5 (42_buffer_controller.md R240). -/
  | hwrBuf5 (sz : Size) (off : BitVec 12) (data : Word)
  /-- `HRD.BUF[5]`. A read from the window of buffer 5 (42_buffer_controller.md R243). -/
  | hrdBuf5 (sz : Size) (off : BitVec 12)
  /-- `HWR.BUF[6]`. A write into the window of buffer 6 (42_buffer_controller.md R240). -/
  | hwrBuf6 (sz : Size) (off : BitVec 12) (data : Word)
  /-- `HRD.BUF[6]`. A read from the window of buffer 6 (42_buffer_controller.md R243). -/
  | hrdBuf6 (sz : Size) (off : BitVec 12)
  /-- `HWR.BUF[7]`. A write into the window of buffer 7 (42_buffer_controller.md R240). -/
  | hwrBuf7 (sz : Size) (off : BitVec 12) (data : Word)
  /-- `HRD.BUF[7]`. A read from the window of buffer 7 (42_buffer_controller.md R243). -/
  | hrdBuf7 (sz : Size) (off : BitVec 12)
  /-- `NOP`. The command NOP (43_front_end.md R280). -/
  | nop
  /-- `CONFIGURE`. The command CONFIGURE (43_front_end.md R283). -/
  | configure
  /-- `START`. The command START (43_front_end.md R285). -/
  | start
  /-- `STOP`. The command STOP (43_front_end.md R287). -/
  | stop
  /-- `SET_OUTPUT`. The command SET_OUTPUT (43_front_end.md R289). -/
  | setOutput (en : Bool)
  /-- `INJECT_LT_SUPPRESS`. The command INJECT_LT_SUPPRESS (41_resync_arbiter.md R215). -/
  | injectLtSuppress
  /-- `RESERVED_CMD`. A reserved command code (43_front_end.md R281). -/
  | reservedCmd (code : BitVec 8)
  deriving DecidableEq, Repr

end Sys2Proof
end

