-- ==== Sys2Proof/Decode.lean ====
section
/-! DEFINITION. The decoder of operation words and the encoder, both written from 30_encoding.md R111 to R122 and the
register map of 10_state.md R67. The decoder is total: every 64-bit transaction word and every 32-bit command word is read
as exactly one operation, and a reserved code is reported by the constructor that names it (R113, R122). -/

namespace Sys2Proof

/-! ### Sizes (R114) -/

/-- The bytes of an access: `n = 2^SZ` (R114). -/
def Size.bytes : Size → Nat
  | .byte => 1
  | .half => 2
  | .word => 4

/-- The SZ code of a size (R111). -/
def Size.code : Size → BitVec 2
  | .byte => 0#2
  | .half => 1#2
  | .word => 2#2

/-- The size an SZ code names; the code 3 is reserved (R116). -/
def Size.ofCode? (c : BitVec 2) : Option Size :=
  if c = 0#2 then some .byte
  else if c = 1#2 then some .half
  else if c = 2#2 then some .word
  else none

/-! ### Host-bus addresses (R67, R82, R115) -/

/-- The host-bus offset of a register (R67). -/
def HostReg.offset : HostReg → Addr
  | .id => 0x00#16
  | .param => 0x04#16
  | .cmd => 0x08#16
  | .status => 0x0C#16
  | .err => 0x10#16
  | .rmReq => 0x14#16
  | .rmDone => 0x18#16
  | .htim0 => 0x20#16
  | .htim1 => 0x24#16
  | .vtim0 => 0x28#16
  | .vtim1 => 0x2C#16
  | .syncSa => 0x30#16
  | .saTol => 0x34#16
  | .line => 0x40#16
  | .frame => 0x44#16
  | .seq => 0x48#16
  | .cnt => 0x4C#16
  | .wdog => 0x50#16
  | .timer => 0x54#16
  | .bufstat b => 0x60#16 + BitVec.ofNat 16 (4 * b.val)
  | .buftag b => 0x80#16 + BitVec.ofNat 16 (4 * b.val)
  | .bufline b => 0xA0#16 + BitVec.ofNat 16 (4 * b.val)

/-- The eight buffer indices (R60). -/
def bufIndices : List (Fin 8) := [0, 1, 2, 3, 4, 5, 6, 7]

/-- The single registers of the register map (R67). -/
def HostReg.singles : List HostReg :=
  [.id, .param, .cmd, .status, .err, .rmReq, .rmDone, .htim0, .htim1, .vtim0,
   .vtim1, .syncSa, .saTol, .line, .frame, .seq, .cnt, .wdog, .timer]

/-- The rows of the register map (R67), with the per-buffer registers of all eight possible buffers. -/
def HostReg.all : List HostReg :=
  HostReg.singles ++ (bufIndices.map HostReg.bufstat ++ (bufIndices.map HostReg.buftag ++ bufIndices.map HostReg.bufline))

/-- The register at an offset of the map, if there is one (R67, R87). -/
def HostReg.ofOffset? (a : Addr) : Option HostReg :=
  HostReg.all.find? fun r => r.offset == a

/-- The addresses of the scanline-buffer window, `0x1000 <= a < 0x9000` (R82). -/
def inWindow (a : Addr) : Bool :=
  decide (0x1000 ≤ a.toNat) && decide (a.toNat < 0x9000)

/-- The buffer a window address decodes to: `a[15:12] - 1` (R82). -/
def windowBuf (a : Addr) : Fin 8 :=
  Fin.ofNat 8 ((a.extractLsb' 12 4).toNat - 1)

/-- The byte offset a window address decodes to: `a[11:0]` (R82). -/
def windowOff (a : Addr) : BitVec 12 :=
  a.extractLsb' 0 12

/-- The window address of offset `o` of buffer `b`: `0x1000 * (b + 1) + o` (R82). -/
def windowAddr (b : Fin 8) (o : BitVec 12) : Addr :=
  BitVec.ofNat 4 (b.val + 1) ++ o

/-! ### The operation of each target (R115) -/

/-- The operation that reads a register (R115, R270). -/
def Instr.ofRead : HostReg → Instr
  | .id => .hrdId
  | .param => .hrdParam
  | .cmd => .hrdCmd
  | .status => .hrdStatus
  | .err => .hrdErr
  | .rmReq => .hrdRmReq
  | .rmDone => .hrdRmDone
  | .htim0 => .hrdHtim0
  | .htim1 => .hrdHtim1
  | .vtim0 => .hrdVtim0
  | .vtim1 => .hrdVtim1
  | .syncSa => .hrdSyncSa
  | .saTol => .hrdSaTol
  | .line => .hrdLine
  | .frame => .hrdFrame
  | .seq => .hrdSeq
  | .cnt => .hrdCnt
  | .wdog => .hrdWdog
  | .timer => .hrdTimer
  | .bufstat 0 => .hrdBufstat0
  | .bufstat 1 => .hrdBufstat1
  | .bufstat 2 => .hrdBufstat2
  | .bufstat 3 => .hrdBufstat3
  | .bufstat 4 => .hrdBufstat4
  | .bufstat 5 => .hrdBufstat5
  | .bufstat 6 => .hrdBufstat6
  | .bufstat 7 => .hrdBufstat7
  | .buftag 0 => .hrdBuftag0
  | .buftag 1 => .hrdBuftag1
  | .buftag 2 => .hrdBuftag2
  | .buftag 3 => .hrdBuftag3
  | .buftag 4 => .hrdBuftag4
  | .buftag 5 => .hrdBuftag5
  | .buftag 6 => .hrdBuftag6
  | .buftag 7 => .hrdBuftag7
  | .bufline 0 => .hrdBufline0
  | .bufline 1 => .hrdBufline1
  | .bufline 2 => .hrdBufline2
  | .bufline 3 => .hrdBufline3
  | .bufline 4 => .hrdBufline4
  | .bufline 5 => .hrdBufline5
  | .bufline 6 => .hrdBufline6
  | .bufline 7 => .hrdBufline7

/-- The operation that writes a data word to a register (R115, R272). -/
def Instr.ofWrite (d : Word) : HostReg → Instr
  | .id => .hwrId d
  | .param => .hwrParam d
  | .cmd => .hwrCmd d
  | .status => .hwrStatus d
  | .err => .hwrErr d
  | .rmReq => .hwrRmReq d
  | .rmDone => .hwrRmDone d
  | .htim0 => .hwrHtim0 d
  | .htim1 => .hwrHtim1 d
  | .vtim0 => .hwrVtim0 d
  | .vtim1 => .hwrVtim1 d
  | .syncSa => .hwrSyncSa d
  | .saTol => .hwrSaTol d
  | .line => .hwrLine d
  | .frame => .hwrFrame d
  | .seq => .hwrSeq d
  | .cnt => .hwrCnt d
  | .wdog => .hwrWdog d
  | .timer => .hwrTimer d
  | .bufstat 0 => .hwrBufstat0 d
  | .bufstat 1 => .hwrBufstat1 d
  | .bufstat 2 => .hwrBufstat2 d
  | .bufstat 3 => .hwrBufstat3 d
  | .bufstat 4 => .hwrBufstat4 d
  | .bufstat 5 => .hwrBufstat5 d
  | .bufstat 6 => .hwrBufstat6 d
  | .bufstat 7 => .hwrBufstat7 d
  | .buftag 0 => .hwrBuftag0 d
  | .buftag 1 => .hwrBuftag1 d
  | .buftag 2 => .hwrBuftag2 d
  | .buftag 3 => .hwrBuftag3 d
  | .buftag 4 => .hwrBuftag4 d
  | .buftag 5 => .hwrBuftag5 d
  | .buftag 6 => .hwrBuftag6 d
  | .buftag 7 => .hwrBuftag7 d
  | .bufline 0 => .hwrBufline0 d
  | .bufline 1 => .hwrBufline1 d
  | .bufline 2 => .hwrBufline2 d
  | .bufline 3 => .hwrBufline3 d
  | .bufline 4 => .hwrBufline4 d
  | .bufline 5 => .hwrBufline5 d
  | .bufline 6 => .hwrBufline6 d
  | .bufline 7 => .hwrBufline7 d

/-- The operation that reads from a buffer window (R115, R243). -/
def Instr.ofWindowRead (n : Size) (o : BitVec 12) : Fin 8 → Instr
  | 0 => .hrdBuf0 n o
  | 1 => .hrdBuf1 n o
  | 2 => .hrdBuf2 n o
  | 3 => .hrdBuf3 n o
  | 4 => .hrdBuf4 n o
  | 5 => .hrdBuf5 n o
  | 6 => .hrdBuf6 n o
  | 7 => .hrdBuf7 n o

/-- The operation that writes into a buffer window (R115, R240). -/
def Instr.ofWindowWrite (n : Size) (o : BitVec 12) (d : Word) : Fin 8 → Instr
  | 0 => .hwrBuf0 n o d
  | 1 => .hwrBuf1 n o d
  | 2 => .hwrBuf2 n o d
  | 3 => .hwrBuf3 n o d
  | 4 => .hwrBuf4 n o d
  | 5 => .hwrBuf5 n o d
  | 6 => .hwrBuf6 n o d
  | 7 => .hwrBuf7 n o d

/-! ### The decoder -/

/-- The OP field, bits 63:56 (R111). -/
def txnOp (w : BitVec 64) : BitVec 8 := w.extractLsb' 56 8

/-- The SZ field, bits 49:48 (R111). -/
def txnSz (w : BitVec 64) : BitVec 2 := w.extractLsb' 48 2

/-- The ADDR or OFF field, bits 47:32 (R111). -/
def txnAddr (w : BitVec 64) : Addr := w.extractLsb' 32 16

/-- The DATA field, bits 31:0 (R111). -/
def txnData (w : BitVec 64) : Word := w.extractLsb' 0 32

/-- The second decode of a host-bus write, by size and address (R115, R116). -/
def decodeHwr (sz : BitVec 2) (a : Addr) (d : Word) : Instr :=
  match Size.ofCode? sz with
  | none => .hwrSz3
  | some n =>
    if inWindow a then Instr.ofWindowWrite n (windowOff a) d (windowBuf a)
    else match (if n = .word then HostReg.ofOffset? a else none) with
      | some r => Instr.ofWrite d r
      | none => .hwr n a d

/-- The second decode of a host-bus read, by size and address (R115, R116). -/
def decodeHrd (sz : BitVec 2) (a : Addr) : Instr :=
  match Size.ofCode? sz with
  | none => .hrdSz3
  | some n =>
    if inWindow a then Instr.ofWindowRead n (windowOff a) (windowBuf a)
    else match (if n = .word then HostReg.ofOffset? a else none) with
      | some r => Instr.ofRead r
      | none => .hrd n a

/-- The operation a transaction word spells (R112). Bits 55:50 and the fields an operation does not use are ignored
(R111); a code R113 reserves is reported as such. -/
def decodeTxn (w : BitVec 64) : Instr :=
  if txnOp w = 0x01#8 then .tick
  else if txnOp w = 0x02#8 then decodeHwr (txnSz w) (txnAddr w) (txnData w)
  else if txnOp w = 0x03#8 then decodeHrd (txnSz w) (txnAddr w)
  else if txnOp w = 0x04#8 then .drd (txnAddr w)
  else if txnOp w = 0x05#8 then .ltsvc
  else if txnOp w = 0x06#8 then .sasvc
  else if txnOp w = 0x07#8 then .rst
  else if txnOp w = 0x08#8 then .periph ((txnData w).getLsbD 0)
  else .reservedOp (txnOp w)

/-- The CMDOP field of a command word, bits 7:0 (R120). -/
def cmdOp (w : Word) : BitVec 8 := w.extractLsb' 0 8

/-- The EN field of a command word, bit 8 (R120). -/
def cmdEn (w : Word) : Bool := w.getLsbD 8

/-- The command a command word spells (R121). Bits 31:9 are ignored, and bit 8 outside SET_OUTPUT (R122). -/
def decodeCmd (w : Word) : Instr :=
  if cmdOp w = 0x00#8 then .nop
  else if cmdOp w = 0x01#8 then .configure
  else if cmdOp w = 0x02#8 then .start
  else if cmdOp w = 0x03#8 then .stop
  else if cmdOp w = 0x04#8 then .setOutput (cmdEn w)
  else if cmdOp w = 0x05#8 then .injectLtSuppress
  else .reservedCmd (cmdOp w)

/-- The operation a spelled operation names (R110). -/
def decode : OpWord → Instr
  | .txn w => decodeTxn w
  | .cmd w => decodeCmd w

/-! ### The encoder -/

/-- A transaction word from its fields, the reserved bits 55:50 zero (R111). -/
def txnWord (op : BitVec 8) (sz : BitVec 2) (a : Addr) (d : Word) : BitVec 64 :=
  op ++ 0#6 ++ sz ++ a ++ d

/-- The transaction word of a host-bus write (R132). -/
def hwrWord (n : Size) (a : Addr) (d : Word) : OpWord := .txn (txnWord 0x02#8 n.code a d)

/-- The transaction word of a host-bus read (R132). -/
def hrdWord (n : Size) (a : Addr) : OpWord := .txn (txnWord 0x03#8 n.code a 0#32)

/-- A command word from its fields, the reserved bits 31:9 zero (R120). -/
def cmdWord (code : BitVec 8) (en : Bool) : OpWord :=
  .cmd (0#23 ++ BitVec.ofBool en ++ code)

/-- The word of each operation, every ignored bit zero (R111, R112, R120, R121). -/
def encode : Instr → OpWord
  | .tick => .txn (txnWord 0x01#8 0#2 0#16 0#32)
  | .hwr sz addr data => hwrWord sz addr data
  | .hrd sz addr => hrdWord sz addr
  | .drd off => .txn (txnWord 0x04#8 0#2 off 0#32)
  | .ltsvc => .txn (txnWord 0x05#8 0#2 0#16 0#32)
  | .sasvc => .txn (txnWord 0x06#8 0#2 0#16 0#32)
  | .rst => .txn (txnWord 0x07#8 0#2 0#16 0#32)
  | .periph v => .txn (txnWord 0x08#8 0#2 0#16 (0#31 ++ BitVec.ofBool v))
  | .reservedOp code => .txn (txnWord code 0#2 0#16 0#32)
  | .hwrSz3 => .txn (txnWord 0x02#8 3#2 0#16 0#32)
  | .hrdSz3 => .txn (txnWord 0x03#8 3#2 0#16 0#32)
  | .hwrId data => hwrWord .word HostReg.id.offset data
  | .hrdId => hrdWord .word HostReg.id.offset
  | .hwrParam data => hwrWord .word HostReg.param.offset data
  | .hrdParam => hrdWord .word HostReg.param.offset
  | .hwrCmd data => hwrWord .word HostReg.cmd.offset data
  | .hrdCmd => hrdWord .word HostReg.cmd.offset
  | .hwrStatus data => hwrWord .word HostReg.status.offset data
  | .hrdStatus => hrdWord .word HostReg.status.offset
  | .hwrErr data => hwrWord .word HostReg.err.offset data
  | .hrdErr => hrdWord .word HostReg.err.offset
  | .hwrRmReq data => hwrWord .word HostReg.rmReq.offset data
  | .hrdRmReq => hrdWord .word HostReg.rmReq.offset
  | .hwrRmDone data => hwrWord .word HostReg.rmDone.offset data
  | .hrdRmDone => hrdWord .word HostReg.rmDone.offset
  | .hwrHtim0 data => hwrWord .word HostReg.htim0.offset data
  | .hrdHtim0 => hrdWord .word HostReg.htim0.offset
  | .hwrHtim1 data => hwrWord .word HostReg.htim1.offset data
  | .hrdHtim1 => hrdWord .word HostReg.htim1.offset
  | .hwrVtim0 data => hwrWord .word HostReg.vtim0.offset data
  | .hrdVtim0 => hrdWord .word HostReg.vtim0.offset
  | .hwrVtim1 data => hwrWord .word HostReg.vtim1.offset data
  | .hrdVtim1 => hrdWord .word HostReg.vtim1.offset
  | .hwrSyncSa data => hwrWord .word HostReg.syncSa.offset data
  | .hrdSyncSa => hrdWord .word HostReg.syncSa.offset
  | .hwrSaTol data => hwrWord .word HostReg.saTol.offset data
  | .hrdSaTol => hrdWord .word HostReg.saTol.offset
  | .hwrLine data => hwrWord .word HostReg.line.offset data
  | .hrdLine => hrdWord .word HostReg.line.offset
  | .hwrFrame data => hwrWord .word HostReg.frame.offset data
  | .hrdFrame => hrdWord .word HostReg.frame.offset
  | .hwrSeq data => hwrWord .word HostReg.seq.offset data
  | .hrdSeq => hrdWord .word HostReg.seq.offset
  | .hwrCnt data => hwrWord .word HostReg.cnt.offset data
  | .hrdCnt => hrdWord .word HostReg.cnt.offset
  | .hwrWdog data => hwrWord .word HostReg.wdog.offset data
  | .hrdWdog => hrdWord .word HostReg.wdog.offset
  | .hwrTimer data => hwrWord .word HostReg.timer.offset data
  | .hrdTimer => hrdWord .word HostReg.timer.offset
  | .hwrBufstat0 data => hwrWord .word (HostReg.bufstat 0).offset data
  | .hrdBufstat0 => hrdWord .word (HostReg.bufstat 0).offset
  | .hwrBuftag0 data => hwrWord .word (HostReg.buftag 0).offset data
  | .hrdBuftag0 => hrdWord .word (HostReg.buftag 0).offset
  | .hwrBufline0 data => hwrWord .word (HostReg.bufline 0).offset data
  | .hrdBufline0 => hrdWord .word (HostReg.bufline 0).offset
  | .hwrBufstat1 data => hwrWord .word (HostReg.bufstat 1).offset data
  | .hrdBufstat1 => hrdWord .word (HostReg.bufstat 1).offset
  | .hwrBuftag1 data => hwrWord .word (HostReg.buftag 1).offset data
  | .hrdBuftag1 => hrdWord .word (HostReg.buftag 1).offset
  | .hwrBufline1 data => hwrWord .word (HostReg.bufline 1).offset data
  | .hrdBufline1 => hrdWord .word (HostReg.bufline 1).offset
  | .hwrBufstat2 data => hwrWord .word (HostReg.bufstat 2).offset data
  | .hrdBufstat2 => hrdWord .word (HostReg.bufstat 2).offset
  | .hwrBuftag2 data => hwrWord .word (HostReg.buftag 2).offset data
  | .hrdBuftag2 => hrdWord .word (HostReg.buftag 2).offset
  | .hwrBufline2 data => hwrWord .word (HostReg.bufline 2).offset data
  | .hrdBufline2 => hrdWord .word (HostReg.bufline 2).offset
  | .hwrBufstat3 data => hwrWord .word (HostReg.bufstat 3).offset data
  | .hrdBufstat3 => hrdWord .word (HostReg.bufstat 3).offset
  | .hwrBuftag3 data => hwrWord .word (HostReg.buftag 3).offset data
  | .hrdBuftag3 => hrdWord .word (HostReg.buftag 3).offset
  | .hwrBufline3 data => hwrWord .word (HostReg.bufline 3).offset data
  | .hrdBufline3 => hrdWord .word (HostReg.bufline 3).offset
  | .hwrBufstat4 data => hwrWord .word (HostReg.bufstat 4).offset data
  | .hrdBufstat4 => hrdWord .word (HostReg.bufstat 4).offset
  | .hwrBuftag4 data => hwrWord .word (HostReg.buftag 4).offset data
  | .hrdBuftag4 => hrdWord .word (HostReg.buftag 4).offset
  | .hwrBufline4 data => hwrWord .word (HostReg.bufline 4).offset data
  | .hrdBufline4 => hrdWord .word (HostReg.bufline 4).offset
  | .hwrBufstat5 data => hwrWord .word (HostReg.bufstat 5).offset data
  | .hrdBufstat5 => hrdWord .word (HostReg.bufstat 5).offset
  | .hwrBuftag5 data => hwrWord .word (HostReg.buftag 5).offset data
  | .hrdBuftag5 => hrdWord .word (HostReg.buftag 5).offset
  | .hwrBufline5 data => hwrWord .word (HostReg.bufline 5).offset data
  | .hrdBufline5 => hrdWord .word (HostReg.bufline 5).offset
  | .hwrBufstat6 data => hwrWord .word (HostReg.bufstat 6).offset data
  | .hrdBufstat6 => hrdWord .word (HostReg.bufstat 6).offset
  | .hwrBuftag6 data => hwrWord .word (HostReg.buftag 6).offset data
  | .hrdBuftag6 => hrdWord .word (HostReg.buftag 6).offset
  | .hwrBufline6 data => hwrWord .word (HostReg.bufline 6).offset data
  | .hrdBufline6 => hrdWord .word (HostReg.bufline 6).offset
  | .hwrBufstat7 data => hwrWord .word (HostReg.bufstat 7).offset data
  | .hrdBufstat7 => hrdWord .word (HostReg.bufstat 7).offset
  | .hwrBuftag7 data => hwrWord .word (HostReg.buftag 7).offset data
  | .hrdBuftag7 => hrdWord .word (HostReg.buftag 7).offset
  | .hwrBufline7 data => hwrWord .word (HostReg.bufline 7).offset data
  | .hrdBufline7 => hrdWord .word (HostReg.bufline 7).offset
  | .hwrBuf0 sz off data => hwrWord sz (windowAddr 0 off) data
  | .hrdBuf0 sz off => hrdWord sz (windowAddr 0 off)
  | .hwrBuf1 sz off data => hwrWord sz (windowAddr 1 off) data
  | .hrdBuf1 sz off => hrdWord sz (windowAddr 1 off)
  | .hwrBuf2 sz off data => hwrWord sz (windowAddr 2 off) data
  | .hrdBuf2 sz off => hrdWord sz (windowAddr 2 off)
  | .hwrBuf3 sz off data => hwrWord sz (windowAddr 3 off) data
  | .hrdBuf3 sz off => hrdWord sz (windowAddr 3 off)
  | .hwrBuf4 sz off data => hwrWord sz (windowAddr 4 off) data
  | .hrdBuf4 sz off => hrdWord sz (windowAddr 4 off)
  | .hwrBuf5 sz off data => hwrWord sz (windowAddr 5 off) data
  | .hrdBuf5 sz off => hrdWord sz (windowAddr 5 off)
  | .hwrBuf6 sz off data => hwrWord sz (windowAddr 6 off) data
  | .hrdBuf6 sz off => hrdWord sz (windowAddr 6 off)
  | .hwrBuf7 sz off data => hwrWord sz (windowAddr 7 off) data
  | .hrdBuf7 sz off => hrdWord sz (windowAddr 7 off)
  | .nop => cmdWord 0x00#8 false
  | .configure => cmdWord 0x01#8 false
  | .start => cmdWord 0x02#8 false
  | .stop => cmdWord 0x03#8 false
  | .setOutput en => cmdWord 0x04#8 en
  | .injectLtSuppress => cmdWord 0x05#8 false
  | .reservedCmd code => cmdWord code false

/-! ### Words numbered as spec/opcode_table.json numbers them -/

/-- The spelled operation whose bits are `w`: the table's rows of format CMD have at most 32 bits, its rows of format TXN
have 64 (R110). -/
def tableWord (nbits w : Nat) : OpWord :=
  if nbits ≤ 32 then .cmd (BitVec.ofNat 32 w) else .txn (BitVec.ofNat 64 w)

/-- The operation the decoder reads from a table word; no word has more than 64 bits. -/
def decodeTableWord (nbits w : Nat) : Option Instr :=
  if nbits ≤ 64 then some (decode (tableWord nbits w)) else none

end Sys2Proof
end

