-- ==== Sys2Proof/Machine/State.lean ====
section
/-! DEFINITION. The machine's state as plain data (10_state.md R30 to R62), the output events (R64), the reasons a step can
stop, and the state after reset (70_reset_and_hazards.md R360). The records are named after the sections of 10_state.md. -/

namespace Sys2Proof.Machine

/-- `drv`, the driver state (R45). -/
inductive Drv where
  | uninit
  | configured
  | rastering
  | stopped
  deriving DecidableEq, Repr

/-- `hsm`, the raster engine state (R46). The codes 5 to 7 are never held. -/
inductive Hsm where
  | idle
  | armed
  | activeVisible
  | activeBlank
  | resyncing
  deriving DecidableEq, Repr

/-- `cfg_err`, the result of the last CONFIGURE (R48). The codes 3 to 15 are never held. -/
inductive CfgErr where
  | none
  | invalidMode
  | periphUnavailable
  deriving DecidableEq, Repr

/-- `region`, the region of the current line (R57). The code 3 is never held. -/
inductive Region where
  | blank
  | vsync
  | visible
  deriving DecidableEq, Repr

/-- `xst`, the transfer state (R59). The code 3 is never held. -/
inductive Xst where
  | idle
  | armed
  | streaming
  deriving DecidableEq, Repr

/-- `own[b]`, the owner of a scanline buffer (R60). -/
inductive Own where
  | free
  | filling
  | ready
  | xfer
  deriving DecidableEq, Repr

/-- The mode registers (R40 to R44). -/
structure Mode where
  tLine : Count
  hsEnd : Count
  bpEnd : Count
  actEnd : Count
  lTotal : Count
  lVis : Count
  vsStart : Count
  vsEnd : Count
  hsPol : Bool
  vsPol : Bool
  saDiv : BitVec 8
  saPhase : Count
  saTol : Count
  deriving DecidableEq, Repr

/-- The control state (R45 to R49), the sticky error bits apart. -/
structure Control where
  drv : Drv
  hsm : Hsm
  outEn : Bool
  cfgErr : CfgErr
  periph : Bool
  deriving DecidableEq, Repr

/-- The sticky error bits of ERR (R48). -/
structure ErrBits where
  badState : Bool
  badCmd : Bool
  ownViol : Bool
  bounds : Bool
  clamped : Bool
  badAccess : Bool
  deriving DecidableEq, Repr

/-- The timers, the watchdog and the pending and lost-firing state (R50 to R53). -/
structure Timers where
  ltCnt : Count
  saDivCnt : BitVec 8
  wdCnt : Count
  ltPend : Bool
  saPend : Bool
  ltSupp : Bool
  ltLost : BitVec 8
  resyncReq : Bool
  deriving DecidableEq, Repr

/-- The line state (R54 to R58). -/
structure LineState where
  line : Count
  seq : BitVec 32
  frame : BitVec 32
  region : Region
  miss : Bool
  missCnt : Count
  resyncCnt : Count
  deriving DecidableEq, Repr

/-- The transfer state (R59). -/
structure Transfer where
  xst : Xst
  xbuf : Fin 8
  xlen : Count
  deriving DecidableEq, Repr

/-- The state of one scanline buffer, its storage apart (R60). -/
structure Buf where
  own : Own
  discard : Bool
  tag : BitVec 32
  tline : Count
  vrange : Count
  deriving DecidableEq, Repr

/-- The raster-maintenance handshake (R62). -/
structure Handshake where
  busy : Bool
  buf : Fin 8
  line : Count
  pend : Bool
  pendSeq : BitVec 32
  pendLine : Count
  deriving DecidableEq, Repr

/-- The output events (R64). -/
inductive Event where
  | dmaArm (b : Fin 8) (len : Count)
  | dmaStart (b : Fin 8) (len : Count)
  | dmaStop (b : Fin 8)
  | frameIrq (n : BitVec 32)
  | rmReq (b : Fin 8) (vis : Count)
  | hostData (v : Word)
  | dmaData (v : Byte)
  deriving DecidableEq, Repr

/-- The state of the machine. `params` is configuration that no step changes; `draws`, `events` and `inputs` are the
model's own fields (log entries 2, 8 and 3); all other fields are the spec's. -/
structure State where
  /-- NBUF, BUF_BYTES and BLANK (R11 to R13; log entry 1). -/
  params : Params
  /-- The mode registers (R40 to R44). -/
  mode : Mode
  /-- The control state (R45 to R49). -/
  ctl : Control
  /-- The sticky error bits (R48). -/
  err : ErrBits
  /-- The timers (R50 to R53). -/
  tmr : Timers
  /-- The line state (R54 to R58). -/
  ln : LineState
  /-- The transfer state (R59). -/
  xfer : Transfer
  /-- The buffers; the slots below NBUF are the machine's (R60; log entry 15). -/
  bufs : Vector Buf 8
  /-- The buffer bytes written since the last reset, by host-bus address, addresses rising (R61, R82). -/
  mem : List Host.Cell
  /-- The raster-maintenance handshake (R62). -/
  rm : Handshake
  /-- The number of resets so far: the index of the draw that unwritten bytes read (R61; log entry 2). -/
  draws : Nat
  /-- The output events of the last step, in the order emitted (R17, R19). -/
  events : List Event
  /-- The operations scheduled next, the first at the head (R2, R19; log entry 3). -/
  inputs : List OpWord
  deriving DecidableEq, Repr

/-- The reasons a step can fault. -/
inductive Fault where
  /-- Raised by a DMA read whose state claims a streaming buffer or a valid range outside the buffers that exist, so that
  the byte it names does not exist. No state that meets the invariant of 10_state.md R65 raises it. SAFE: the model stops
  where the spec says nothing (log entry 13). -/
  | dmaByteMissing
  deriving DecidableEq, Repr

/-- The reasons a step can be refused. -/
inductive Refusal where
  /-- Raised by an arm of `exec` that has no meaning yet. SAFE: nothing is claimed of the instruction. -/
  | notModelled (mnemonic : String)
  /-- Raised by a reserved TXN operation code: it spells no operation and a model refuses it (R113, R17). SAFE. -/
  | reservedOperation (code : BitVec 8)
  /-- Raised by an LTSVC that the arbiter does not grant, `drv = RASTERING` and `lt_pend = 1` not both holding (R212). SAFE. -/
  | lineServiceNotGranted
  /-- Raised by a SASVC that the arbiter does not grant: it needs `drv = RASTERING`, `sa_pend = 1`, `lt_pend = 0` (R212). SAFE. -/
  | shockServiceNotGranted
  /-- Raised by a step when no operation is scheduled: a step is one operation (R19; log entry 4). SAFE. -/
  | noOperation
  deriving DecidableEq, Repr

/-- The answer of an operation. -/
abbrev Result := Host.Outcome State Fault Refusal

/-- The mode registers after reset (R40 to R43). -/
def Mode.reset : Mode where
  tLine := 0
  hsEnd := 0
  bpEnd := 0
  actEnd := 0
  lTotal := 0
  lVis := 0
  vsStart := 0
  vsEnd := 0
  hsPol := false
  vsPol := false
  saDiv := 0
  saPhase := 0
  saTol := 0

/-- The control state after reset (R45 to R49). -/
def Control.reset : Control := ⟨.uninit, .idle, false, .none, true⟩

/-- The error bits after reset (R48). -/
def ErrBits.reset : ErrBits := ⟨false, false, false, false, false, false⟩

/-- The timers after reset (R50 to R53). -/
def Timers.reset : Timers := ⟨0, 0, 0, false, false, false, 0, false⟩

/-- The line state after reset (R54 to R58). -/
def LineState.reset : LineState := ⟨0, 0, 0, .blank, false, 0, 0⟩

/-- The transfer state after reset (R59). -/
def Transfer.reset : Transfer := ⟨.idle, 0, 0⟩

/-- A buffer after reset (R60). -/
def Buf.reset : Buf := ⟨.free, false, 0, 0, 0⟩

/-- The handshake after reset (R62). -/
def Handshake.reset : Handshake := ⟨false, 0, 0, false, 0, 0⟩

/-- The machine with parameters `p` after its reset number `n`, with the schedule and the events given (R360): every field
at its reset value, and no byte written since. -/
def State.resetWith (p : Params) (n : Nat) (evs : List Event) (ins : List OpWord) : State where
  params := p
  mode := .reset
  ctl := .reset
  err := .reset
  tmr := .reset
  ln := .reset
  xfer := .reset
  bufs := Vector.replicate 8 .reset
  mem := []
  rm := .reset
  draws := n
  events := evs
  inputs := ins

/-- The machine right after reset (R360), with the default parameters (R11 to R13; log entry 1), the first draw of the
buffer bytes, no event, and nothing scheduled (log entries 2, 3, 8). -/
def State.reset : State := State.resetWith Params.default 0 [] []

end Sys2Proof.Machine
end

