-- ==== Sys2Proof/Machine/Ops.lean ====
section
/-! DEFINITION. The named operations over memory, buffers, errors, events and the schedule that the meanings share
(00_scope.md R17), and Dispatch (42_buffer_controller.md R232). The block takes no exception: what stands in its place is
`raise`, the one operation that records an error (60_exceptions.md R320, R321). -/

namespace Sys2Proof.Machine

/-! ### Buffer bytes -/

/-- The byte listed for an address, if one is. -/
def Memory.lookup : List Host.Cell → Nat → Option Byte
  | [], _ => none
  | c :: r, a => if c.1 = a then some c.2 else Memory.lookup r a

/-- Lists byte `v` for address `a`, keeping addresses rising. -/
def Memory.insert (a : Nat) (v : Byte) : List Host.Cell → List Host.Cell
  | [] => [(a, v)]
  | c :: r =>
    if a < c.1 then (a, v) :: c :: r
    else if a = c.1 then (a, v) :: r
    else c :: Memory.insert a v r

/-- Every listed address is at least `lo` and the addresses strictly rise. -/
def Memory.risesFrom (lo : Nat) : List Host.Cell → Bool
  | [] => true
  | c :: r => decide (lo ≤ c.1) && Memory.risesFrom (c.1 + 1) r

/-- The canonical form: addresses strictly rise. An unlisted byte is an unwritten one, and a listed one is written, so no
entry can say what an unlisted address says. -/
def Memory.wf (m : List Host.Cell) : Bool := Memory.risesFrom 0 m

/-- The host-bus address of byte `o` of buffer `b` (R82). -/
def bufAddr (b : Fin 8) (o : Nat) : Nat := 0x1000 * (b.val + 1) + o

/-- One byte of a buffer: the last value written since reset, or this reset's draw (R61, R244; log entry 2). -/
def readByte (s : State) (b : Fin 8) (o : Nat) : Byte :=
  (Memory.lookup s.mem (bufAddr b o)).getD (Config.freeByte s.draws (bufAddr b o))

/-- Writes one byte of a buffer (R61). -/
def writeByte (b : Fin 8) (o : Nat) (v : Byte) (s : State) : State :=
  { s with mem := Memory.insert (bufAddr b o) v s.mem }

/-- `BufRead(b, o, n)`: `n` bytes, little-endian, zero-extended (R84). -/
def bufRead (s : State) (b : Fin 8) (o : Nat) : Nat → Word
  | 0 => 0
  | n + 1 => (readByte s b o).setWidth 32 ||| (bufRead s b (o + 1) n <<< 8)

/-- `BufWrite(b, o, n, d)`: the `n` low bytes of `d`, little-endian (R84). -/
def bufWrite (b : Fin 8) (o : Nat) : Nat → Word → State → State
  | 0, _, s => s
  | n + 1, d, s => bufWrite b (o + 1) n (d >>> 8) (writeByte b o (d.setWidth 8) s)

/-! ### Buffer state -/

/-- The state of buffer `b`. -/
def State.buf (s : State) (b : Fin 8) : Buf := s.bufs[b]

/-- Buffer `b` exists: `b < NBUF` (R60). -/
def State.hasBuf (s : State) (b : Fin 8) : Bool := decide (b.val < s.params.nbuf)

/-- Replaces the state of buffer `b`. -/
def setBuf (b : Fin 8) (x : Buf) (s : State) : State := { s with bufs := s.bufs.set b x }

/-- `own[b] <- o`. -/
def setOwn (b : Fin 8) (o : Own) (s : State) : State := setBuf b { s.buf b with own := o } s

/-- `for b in 0 .. NBUF-1`: every existing buffer is changed by `f`. -/
def mapBufs (f : Buf → Buf) (s : State) : State :=
  { s with bufs := Vector.ofFn fun b => if s.hasBuf b then f (s.buf b) else s.buf b }

/-- The least existing buffer with property `p`, if there is one (R234). -/
def firstBuf (p : Buf → Bool) (s : State) : Option (Fin 8) :=
  bufIndices.find? fun b => s.hasBuf b && p (s.buf b)

/-! ### Errors and events -/

/-- The sticky error bits by name (R322). -/
inductive ErrBit where
  | badState
  | badCmd
  | ownViol
  | bounds
  | clamped
  | badAccess
  deriving DecidableEq, Repr

/-- `raise E`: sets the sticky bit `E` of ERR, and nothing else (R321). -/
def raise (e : ErrBit) (s : State) : State :=
  match e with
  | .badState => { s with err := { s.err with badState := true } }
  | .badCmd => { s with err := { s.err with badCmd := true } }
  | .ownViol => { s with err := { s.err with ownViol := true } }
  | .bounds => { s with err := { s.err with bounds := true } }
  | .clamped => { s with err := { s.err with clamped := true } }
  | .badAccess => { s with err := { s.err with badAccess := true } }

/-- `emit E`: appends an event to the step's output list (R17). -/
def emit (e : Event) (s : State) : State := { s with events := s.events ++ [e] }

/-! ### Dispatch -/

/-- Hands the waiting request to buffer `b` (R232, the body of the condition). -/
def dispatchTo (b : Fin 8) (s : State) : State :=
  emit (.rmReq b s.rm.pendLine)
    (setBuf b { s.buf b with own := .filling, discard := false, tag := s.rm.pendSeq, tline := s.rm.pendLine }
      { s with rm := { s.rm with busy := true, buf := b, line := s.rm.pendLine, pend := false } })

/-- Dispatch, the last action of every operation but RST (R232, R233): a waiting request goes to the least FREE buffer
when the raster-maintenance context is idle (R234). -/
def dispatchFill (s : State) : State :=
  if s.rm.pend && !s.rm.busy then
    match firstBuf (fun x => decide (x.own = .free)) s with
    | some b => dispatchTo b s
    | none => s
  else s

/-! ### The schedule -/

/-- The state in which the operation at the head of the schedule is taken: it is off the schedule, and the step's output
list is empty (R17, R19; log entries 3, 8). -/
def beginStep (rest : List OpWord) (s : State) : State := { s with inputs := rest, events := [] }

/-- The arbiter's enabling condition of LTSVC (R212). -/
def lineServiceEnabled (s : State) : Bool := decide (s.ctl.drv = .rastering) && s.tmr.ltPend

/-- The arbiter's enabling condition of SASVC (R212). -/
def shockServiceEnabled (s : State) : Bool :=
  decide (s.ctl.drv = .rastering) && s.tmr.saPend && !s.tmr.ltPend

/-- Schedules a word first. LTSVC and SASVC are no inputs but the arbiter's grants (R112), which a scheduled word cannot
stand for by itself: for those two the enabling condition of R212 is put in place with the word (log entry 6). -/
def placeFirst (w : OpWord) (s : State) : State :=
  match decode w with
  | .ltsvc =>
    { s with inputs := w :: s.inputs, ctl := { s.ctl with drv := .rastering }, tmr := { s.tmr with ltPend := true } }
  | .sasvc =>
    { s with inputs := w :: s.inputs, ctl := { s.ctl with drv := .rastering },
             tmr := { s.tmr with saPend := true, ltPend := false } }
  | _ => { s with inputs := w :: s.inputs }

end Sys2Proof.Machine
end

