-- ==== Sys2Proof/Machine/Environment.lean ====
section
/-! DEFINITION. The operations of the environment: reset (70_reset_and_hazards.md R361), the peripheral-availability input
(43_front_end.md R299), and the reserved operation codes (30_encoding.md R113). -/

namespace Sys2Proof.Machine

/-- RST (R361): every field at its reset value, every buffer byte drawn anew, no event, no Dispatch. The parameters are no
state (R30), and the schedule is the agents', not the block's (log entry 3). -/
def execRst (s : State) : Result := .next (State.resetWith s.params (s.draws + 1) s.events s.inputs)

/-- PERIPH (R299). -/
def execPeriph (v : Bool) (s : State) : Result :=
  .next (dispatchFill { s with ctl := { s.ctl with periph := v } })

/-- A reserved operation code: it spells no operation, and a model refuses it (R113). -/
def execReservedOp (code : BitVec 8) (_s : State) : Result := .refused (.reservedOperation code)

end Sys2Proof.Machine
end

