-- ==== Sys2Proof/Machine/Flags.lean ====
section
/-! DEFINITION. The computed conditions and counters: saturation (00_scope.md R17), vertical blank and regions
(10_state.md R41, 40_horizontal_fsm.md R166), the mode check (43_front_end.md R282), and the divergence check
(41_resync_arbiter.md R201). Comparisons are on unsigned mathematical values (R16), here natural numbers. -/

namespace Sys2Proof.Machine

/-- `sat_n(v + k)` (R17). -/
def satAdd (n : Nat) (v : BitVec n) (k : Nat) : BitVec n := BitVec.ofNat n (min (v.toNat + k) (2 ^ n - 1))

/-- `VB = L_TOTAL - L_VIS`, the vertical-blank lines of a frame (R41). No accepted mode has `L_VIS >= L_TOTAL` (R282);
for such values the difference is taken as 0 (log entry 11). -/
def vb (m : Mode) : Nat := m.lTotal.toNat - m.lVis.toNat

/-- The region of a line (R166). -/
def regionOf (m : Mode) (line : Count) : Region :=
  if vb m ≤ line.toNat then .visible
  else if m.vsStart.toNat ≤ line.toNat ∧ line.toNat < m.vsEnd.toNat then .vsync
  else .blank

/-- The line after `line` in its frame (R172). -/
def nextLine (m : Mode) (line : Count) : Count :=
  if line.toNat + 1 = m.lTotal.toNat then 0 else line + 1

/-- `mode_ok`, the mode-validity predicate (R282). -/
def modeOk (m : Mode) : Bool :=
  decide (1 ≤ m.hsEnd.toNat) && decide (m.hsEnd.toNat < m.bpEnd.toNat) && decide (m.bpEnd.toNat < m.actEnd.toNat)
    && decide (m.actEnd.toNat < m.tLine.toNat)
    && decide (1 ≤ m.lVis.toNat) && decide (m.lVis.toNat < m.lTotal.toNat)
    && decide (m.vsStart.toNat < m.vsEnd.toNat) && decide (m.vsEnd.toNat ≤ vb m)
    && decide (1 ≤ m.saDiv.toNat)
    && decide (1 ≤ m.saPhase.toNat) && decide (m.saPhase.toNat < m.tLine.toNat)

/-- The divergence check of the shock absorber (R200, R201): a firing lost, the handler not run in this real line, or run
late by more than the tolerance. -/
def diverged (s : State) : Bool :=
  decide (s.tmr.ltLost ≠ 0) || decide (s.tmr.ltCnt.toNat < s.tmr.wdCnt.toNat)
    || decide (s.mode.saTol.toNat < s.tmr.ltCnt.toNat - s.tmr.wdCnt.toNat)

end Sys2Proof.Machine
end

