-- ==== Sys2Proof/Machine/Buffers.lean ====
section
/-! DEFINITION. The scanline buffer controller (42_buffer_controller.md R236 to R247): the end of a fill, the checks and
effects of buffer-window accesses, and the DMA read port. -/

namespace Sys2Proof.Machine

/-- The fill in service ends: its buffer becomes FREE if the fill is discarded, else READY with the declared range clamped
to BUF_BYTES (R236 to R238). -/
def finishFill (vr : Word) (s : State) : State :=
  let b := s.rm.buf
  let x := s.buf b
  let s1 := if s.params.bufBytes < vr.toNat then raise .clamped s else s
  let s2 := if x.discard then setBuf b { x with own := .free, discard := false } s1
    else setBuf b { x with own := .ready, vrange := BitVec.ofNat 16 (min vr.toNat s.params.bufBytes) } s1
  { s2 with rm := { s2.rm with busy := false } }

/-- RM_DONE with declared range `vr` (R236); with no fill in service it raises `e_own_viol` (R239). -/
def rmDone (vr : Word) (s : State) : State :=
  dispatchFill (if s.rm.busy then finishFill vr s else raise .ownViol s)

/-- The first check a window access to an existing buffer fails, if it fails one (R240, R243): alignment (20_memory.md R88),
bounds (R89), owner. -/
def windowCheck (b : Fin 8) (o : BitVec 12) (n : Size) (s : State) : Option ErrBit :=
  if o.toNat % n.bytes ≠ 0 then some .bounds
  else if s.params.bufBytes < o.toNat + n.bytes then some .bounds
  else if (s.buf b).own ≠ .filling then some .ownViol
  else none

/-- A write of `n` bytes of `d` at offset `o` of the window of buffer `b`: BUFWR (R240), or an unmapped access where the
buffer does not exist (20_memory.md R87). -/
def windowWrite (b : Fin 8) (o : BitVec 12) (n : Size) (d : Word) (s : State) : State :=
  if s.hasBuf b then
    match windowCheck b o n s with
    | some e => raise e s
    | none => bufWrite b o.toNat n.bytes d s
  else raise .badAccess s

/-- The value a window read returns: 0 where it is refused (R243, R323). -/
def windowValue (b : Fin 8) (o : BitVec 12) (n : Size) (s : State) : Word :=
  if s.hasBuf b && (windowCheck b o n s).isNone then bufRead s b o.toNat n.bytes else 0

/-- The error a window read raises, if it raises one (R243; 20_memory.md R87). -/
def windowReadError (b : Fin 8) (o : BitVec 12) (n : Size) (s : State) : Option ErrBit :=
  if s.hasBuf b then windowCheck b o n s else some .badAccess

/-- The transfer engine's read is inside the streaming window: `xst == STREAMING and o < xlen` (R246). -/
def dmaHits (o : Addr) (s : State) : Bool :=
  decide (s.xfer.xst = .streaming) && decide (o.toNat < s.xfer.xlen.toNat)

/-- The byte `mem[xbuf][o]` exists (R61). -/
def dmaByteExists (o : Addr) (s : State) : Bool :=
  s.hasBuf s.xfer.xbuf && decide (o.toNat < s.params.bufBytes)

/-- The end of a DMA read: the byte is returned, then Dispatch (R246). -/
def finishDma (v : Byte) (s : State) : State := dispatchFill (emit (.dmaData v) s)

/-- DRD (R246): the streamed byte below the valid range, BLANK anywhere else. -/
def execDrd (off : Addr) (s : State) : Result :=
  if dmaHits off s then
    if dmaByteExists off s then .next (finishDma (readByte s s.xfer.xbuf off.toNat) s)
    else .fault .dmaByteMissing
  else .next (finishDma s.params.blank s)

end Sys2Proof.Machine
end

