-- ==== Sys2Proof/Machine/Commands.lean ====
section
/-! DEFINITION. The host commands (43_front_end.md R279 to R290, 41_resync_arbiter.md R215) and the operations that carry
them. A command is an aligned word write to CMD, so each ends with the Dispatch of its host-bus write (R272). -/

namespace Sys2Proof.Machine

/-- NOP (R280). -/
def cmdNop (s : State) : State := s

/-- CONFIGURE (R283): the driver state first, then the mode, then the peripheral (R284). -/
def cmdConfigure (s : State) : State :=
  if s.ctl.drv = .rastering then raise .badState s
  else if modeOk s.mode = false then { s with ctl := { s.ctl with cfgErr := .invalidMode, drv := .uninit } }
  else if s.ctl.periph = false then { s with ctl := { s.ctl with cfgErr := .periphUnavailable, drv := .uninit } }
  else { s with ctl := { s.ctl with cfgErr := .none, drv := .configured } }

/-- A buffer that is READY becomes FREE (R285, R287). -/
def freeReady (x : Buf) : Buf := if x.own = .ready then { x with own := .free } else x

/-- The state START leaves before its Dispatch (R285). -/
def startRaster (s : State) : State :=
  mapBufs freeReady { s with
    ctl := { s.ctl with drv := .rastering, hsm := .armed }
    tmr := { ltCnt := 0, saDivCnt := 0, wdCnt := 0, ltPend := false, saPend := false, ltSupp := false, ltLost := 0,
             resyncReq := false }
    ln := { line := 0, seq := 0, frame := 0, region := if s.mode.vsStart = 0 then .vsync else .blank,
            miss := false, missCnt := 0, resyncCnt := 0 }
    rm := if vb s.mode = 1 then { s.rm with pend := true, pendSeq := 1, pendLine := 0 }
          else { s.rm with pend := false } }

/-- START (R285). -/
def cmdStart (s : State) : State :=
  if s.ctl.drv = .configured ∨ s.ctl.drv = .stopped then dispatchFill (startRaster s) else raise .badState s

/-- What STOP does to a buffer: READY is freed, FILLING is marked discarded (R287). -/
def stopBuf (x : Buf) : Buf :=
  match x.own with
  | .ready => { x with own := .free }
  | .filling => { x with discard := true }
  | .free => x
  | .xfer => x

/-- STOP ends the transfer: a streaming one with its event, and its buffer is freed (R287). -/
def stopTransfer (s : State) : State :=
  let s1 := if s.xfer.xst = .streaming then emit (.dmaStop s.xfer.xbuf) s else s
  if s.xfer.xst = .idle then s1
  else { setOwn s.xfer.xbuf .free s1 with xfer := { s1.xfer with xst := .idle } }

/-- The state STOP leaves before its Dispatch (R287). -/
def stopRaster (s : State) : State :=
  let s1 := mapBufs stopBuf (stopTransfer s)
  { s1 with
    rm := { s1.rm with pend := false }
    tmr := { s1.tmr with ltPend := false, saPend := false, ltSupp := false, resyncReq := false }
    ln := { s1.ln with miss := false }
    ctl := { s1.ctl with drv := .stopped, hsm := .idle } }

/-- STOP (R287). -/
def cmdStop (s : State) : State :=
  if s.ctl.drv = .rastering then dispatchFill (stopRaster s) else raise .badState s

/-- SET_OUTPUT (R289). -/
def cmdSetOutput (en : Bool) (s : State) : State := { s with ctl := { s.ctl with outEn := en } }

/-- INJECT_LT_SUPPRESS (R215). -/
def cmdInjectLtSuppress (s : State) : State :=
  if s.ctl.drv = .rastering then { s with tmr := { s.tmr with ltSupp := true } } else raise .badState s

/-- A reserved command (R281). -/
def cmdReserved (s : State) : State := raise .badCmd s

/-- CMDWR (R279): the command that bits 7:0 of the data word name. -/
def cmdWrite (d : Word) (s : State) : State :=
  if cmdOp d = 0x00#8 then cmdNop s
  else if cmdOp d = 0x01#8 then cmdConfigure s
  else if cmdOp d = 0x02#8 then cmdStart s
  else if cmdOp d = 0x03#8 then cmdStop s
  else if cmdOp d = 0x04#8 then cmdSetOutput (cmdEn d) s
  else if cmdOp d = 0x05#8 then cmdInjectLtSuppress s
  else cmdReserved s

/-- NOP as an operation (R280, R272). -/
def execNop (s : State) : Result := .next (dispatchFill (cmdNop s))

/-- CONFIGURE as an operation (R283, R272). -/
def execConfigure (s : State) : Result := .next (dispatchFill (cmdConfigure s))

/-- START as an operation (R285, R272). -/
def execStart (s : State) : Result := .next (dispatchFill (cmdStart s))

/-- STOP as an operation (R287, R272). -/
def execStop (s : State) : Result := .next (dispatchFill (cmdStop s))

/-- SET_OUTPUT as an operation (R289, R272). -/
def execSetOutput (en : Bool) (s : State) : Result := .next (dispatchFill (cmdSetOutput en s))

/-- INJECT_LT_SUPPRESS as an operation (R215, R272). -/
def execInjectLtSuppress (s : State) : Result := .next (dispatchFill (cmdInjectLtSuppress s))

/-- A reserved command as an operation (R281, R272). -/
def execReservedCmd (_code : BitVec 8) (s : State) : Result := .next (dispatchFill (cmdReserved s))

end Sys2Proof.Machine
end

