-- ==== Sys2Proof/Machine/Operands.lean ====
section
/-! DEFINITION. The operand forms: the codes of the enumerated fields (10_state.md R45, R46, R48, R57, R59, R60), the
placing of a field in a register word (R67, R270), and the decode of a host-bus target (20_memory.md R82, R86, R87). -/

namespace Sys2Proof.Machine

/-- The code of `drv` (R45). -/
def drvCode : Drv → BitVec 2
  | .uninit => 0#2
  | .configured => 1#2
  | .rastering => 2#2
  | .stopped => 3#2

/-- The code of `hsm` (R46). -/
def hsmCode : Hsm → BitVec 3
  | .idle => 0#3
  | .armed => 1#3
  | .activeVisible => 2#3
  | .activeBlank => 3#3
  | .resyncing => 4#3

/-- The code of `cfg_err` (R48). -/
def cfgErrCode : CfgErr → BitVec 4
  | .none => 0#4
  | .invalidMode => 1#4
  | .periphUnavailable => 2#4

/-- The code of `region` (R57). -/
def regionCode : Region → BitVec 2
  | .blank => 0#2
  | .vsync => 1#2
  | .visible => 2#2

/-- The code of `xst` (R59). -/
def xstCode : Xst → BitVec 2
  | .idle => 0#2
  | .armed => 1#2
  | .streaming => 2#2

/-- The code of `own[b]` (R60). -/
def ownCode : Own → BitVec 2
  | .free => 0#2
  | .filling => 1#2
  | .ready => 2#2
  | .xfer => 3#2

/-- A field placed at bit `k` of a 32-bit register word (R270). -/
def field (w : Nat) (v : BitVec w) (k : Nat) : Word := v.setWidth 32 <<< k

/-- A one-bit field placed at bit `k` of a register word (R270). -/
def bitField (v : Bool) (k : Nat) : Word := field 1 (BitVec.ofBool v) k

/-- The halfword of a data word from bit `k` up (R277). -/
def halfAt (k : Nat) (d : Word) : Count := d.extractLsb' k 16

/-- A per-buffer register is mapped only for a buffer that exists; every other register of the map is (R67, R87). -/
def regMapped (r : HostReg) (s : State) : Bool :=
  match r with
  | .bufstat b => s.hasBuf b
  | .buftag b => s.hasBuf b
  | .bufline b => s.hasBuf b
  | _ => true

/-- The mapped register an aligned address names, if it names one (R67, R87). -/
def mappedReg (a : Addr) (s : State) : Option HostReg :=
  match HostReg.ofOffset? a with
  | some r => if regMapped r s then some r else none
  | none => none

end Sys2Proof.Machine
end

