-- ==== Sys2Proof/Machine/Registers.lean ====
section
/-! DEFINITION. The host-bus registers: the value each reads (43_front_end.md R270) and the effect of a word written to
each (R273, R274, R276, R277, R279; 42_buffer_controller.md R236). -/

namespace Sys2Proof.Machine

/-- `STATUS` (R270). -/
def statusWord (s : State) : Word :=
  field 2 (drvCode s.ctl.drv) 0 ||| field 3 (hsmCode s.ctl.hsm) 2 ||| bitField s.ln.miss 5
    ||| bitField s.tmr.resyncReq 6 ||| bitField s.ctl.outEn 7 ||| bitField s.tmr.ltPend 8
    ||| bitField s.tmr.saPend 9 ||| bitField s.tmr.ltSupp 10 ||| bitField s.ctl.periph 11
    ||| field 2 (regionCode s.ln.region) 12 ||| field 2 (xstCode s.xfer.xst) 14
    ||| bitField s.rm.busy 16 ||| bitField s.rm.pend 17

/-- `ERR` (R270). -/
def errWord (s : State) : Word :=
  field 4 (cfgErrCode s.ctl.cfgErr) 0 ||| bitField s.err.badState 8 ||| bitField s.err.badCmd 9
    ||| bitField s.err.ownViol 10 ||| bitField s.err.bounds 11 ||| bitField s.err.clamped 12
    ||| bitField s.err.badAccess 13

/-- `PARAM` (R270). -/
def paramWord (p : Params) : Word :=
  field 4 (BitVec.ofNat 4 p.nbuf) 0 ||| field 4 (BitVec.ofNat 4 specVersion) 4
    ||| field 16 (BitVec.ofNat 16 p.bufBytes) 16

/-- `RegValue` (R270): what a word read of a mapped register returns, built from the state at the start of the step. -/
def regValue (r : HostReg) (s : State) : Word :=
  match r with
  | .id => idWord
  | .param => paramWord s.params
  | .cmd => 0
  | .status => statusWord s
  | .err => errWord s
  | .rmReq => field 16 s.rm.line 0 ||| field 3 (BitVec.ofFin s.rm.buf) 16 ||| bitField s.rm.busy 31
  | .rmDone => 0
  | .htim0 => field 16 s.mode.tLine 0 ||| field 16 s.mode.hsEnd 16
  | .htim1 => field 16 s.mode.bpEnd 0 ||| field 16 s.mode.actEnd 16
  | .vtim0 => field 16 s.mode.lTotal 0 ||| field 16 s.mode.lVis 16
  | .vtim1 => field 16 s.mode.vsStart 0 ||| field 16 s.mode.vsEnd 16
  | .syncSa => bitField s.mode.hsPol 0 ||| bitField s.mode.vsPol 1 ||| field 8 s.mode.saDiv 8
      ||| field 16 s.mode.saPhase 16
  | .saTol => field 16 s.mode.saTol 0
  | .line => field 16 s.ln.line 0
  | .frame => s.ln.frame
  | .seq => s.ln.seq
  | .cnt => field 16 s.ln.missCnt 0 ||| field 16 s.ln.resyncCnt 16
  | .wdog => field 16 s.tmr.wdCnt 0 ||| field 8 s.tmr.ltLost 16
  | .timer => field 16 s.tmr.ltCnt 0 ||| field 8 s.tmr.saDivCnt 16
  | .bufstat b => field 2 (ownCode (s.buf b).own) 0 ||| bitField (s.buf b).discard 2 ||| field 16 (s.buf b).vrange 16
  | .buftag b => (s.buf b).tag
  | .bufline b => field 16 (s.buf b).tline 0

/-- ERRWR (R274): a 1 at a sticky bit's position clears it; `cfg_err` does not change. -/
def errWrite (d : Word) (s : State) : State :=
  { s with err :=
    { badState := s.err.badState && !d.getLsbD 8
      badCmd := s.err.badCmd && !d.getLsbD 9
      ownViol := s.err.ownViol && !d.getLsbD 10
      bounds := s.err.bounds && !d.getLsbD 11
      clamped := s.err.clamped && !d.getLsbD 12
      badAccess := s.err.badAccess && !d.getLsbD 13 } }

/-- The mode fields a mode register's data word writes (R277). -/
def modeFields (r : HostReg) (d : Word) (m : Mode) : Mode :=
  match r with
  | .htim0 => { m with tLine := halfAt 0 d, hsEnd := halfAt 16 d }
  | .htim1 => { m with bpEnd := halfAt 0 d, actEnd := halfAt 16 d }
  | .vtim0 => { m with lTotal := halfAt 0 d, lVis := halfAt 16 d }
  | .vtim1 => { m with vsStart := halfAt 0 d, vsEnd := halfAt 16 d }
  | .syncSa => { m with
      hsPol := d.getLsbD 0, vsPol := d.getLsbD 1, saDiv := d.extractLsb' 8 8, saPhase := halfAt 16 d }
  | .saTol => { m with saTol := halfAt 0 d }
  | _ => m

/-- MODEWR (R276): refused while rastering; otherwise the fields are written and an accepted mode is accepted no more. -/
def modeWrite (r : HostReg) (d : Word) (s : State) : State :=
  if s.ctl.drv = .rastering then raise .badState s
  else { s with
    mode := modeFields r d s.mode
    ctl := { s.ctl with drv := if s.ctl.drv = .configured ∨ s.ctl.drv = .stopped then .uninit else s.ctl.drv } }

/-- The effect of a data word written to a mapped register (R272), its Dispatch apart. A read-only register is refused
(R273). -/
def regWrite (r : HostReg) (d : Word) (s : State) : State :=
  match r with
  | .cmd => cmdWrite d s
  | .err => errWrite d s
  | .rmDone => rmDone d s
  | .htim0 => modeWrite .htim0 d s
  | .htim1 => modeWrite .htim1 d s
  | .vtim0 => modeWrite .vtim0 d s
  | .vtim1 => modeWrite .vtim1 d s
  | .syncSa => modeWrite .syncSa d s
  | .saTol => modeWrite .saTol d s
  | _ => raise .badAccess s

/-- The end of a host-bus read: the value is returned, then Dispatch (R271). -/
def finishRead (v : Word) (s : State) : State := dispatchFill (emit (.hostData v) s)

/-- A word read of a register (R271): its value where it is mapped, else 0 with `e_bad_access` (20_memory.md R87). -/
def readReg (r : HostReg) (s : State) : Result :=
  if regMapped r s then .next (finishRead (regValue r s) s) else .next (finishRead 0 (raise .badAccess s))

/-- A word write to a register (R272): its effect where it is mapped, else `e_bad_access` (20_memory.md R87). -/
def writeReg (r : HostReg) (d : Word) (s : State) : Result :=
  if regMapped r s then .next (dispatchFill (regWrite r d s)) else .next (dispatchFill (raise .badAccess s))

/-- A read of a buffer window (R243, R271). -/
def readWindow (b : Fin 8) (n : Size) (o : BitVec 12) (s : State) : Result :=
  match windowReadError b o n s with
  | some e => .next (finishRead 0 (raise e s))
  | none => .next (finishRead (windowValue b o n s) s)

/-- A write of a buffer window (R240, R272). -/
def writeWindow (b : Fin 8) (n : Size) (o : BitVec 12) (d : Word) (s : State) : Result :=
  .next (dispatchFill (windowWrite b o n d s))

/-- HRD in full (R271), for any size code and address: the value returned, and the state with any error raised. -/
def hostRead (sz : BitVec 2) (a : Addr) (s : State) : State :=
  match Size.ofCode? sz with
  | none => finishRead 0 (raise .badAccess s)
  | some n =>
    if a.toNat < 0x100 then
      if n ≠ .word ∨ a.toNat % 4 ≠ 0 then finishRead 0 (raise .badAccess s)
      else match mappedReg a s with
        | some r => finishRead (regValue r s) s
        | none => finishRead 0 (raise .badAccess s)
    else if inWindow a && s.hasBuf (windowBuf a) then
      match windowCheck (windowBuf a) (windowOff a) n s with
      | some e => finishRead 0 (raise e s)
      | none => finishRead (bufRead s (windowBuf a) (windowOff a).toNat n.bytes) s
    else finishRead 0 (raise .badAccess s)

/-- HWR in full (R272), for any size code, address and data. -/
def hostWrite (sz : BitVec 2) (a : Addr) (d : Word) (s : State) : State :=
  dispatchFill
    (match Size.ofCode? sz with
    | none => raise .badAccess s
    | some n =>
      if a.toNat < 0x100 then
        if n ≠ .word ∨ a.toNat % 4 ≠ 0 then raise .badAccess s
        else match mappedReg a s with
          | some r => regWrite r d s
          | none => raise .badAccess s
      else if inWindow a && s.hasBuf (windowBuf a) then
        match windowCheck (windowBuf a) (windowOff a) n s with
        | some e => raise e s
        | none => bufWrite (windowBuf a) (windowOff a).toNat n.bytes d s
      else raise .badAccess s)

end Sys2Proof.Machine
end

