-- ==== Sys2Proof/Machine/HostRead.lean ====
section
/-! DEFINITION. The host-bus reads, one meaning for each target of HRD (43_front_end.md R271, 30_encoding.md R115). -/

namespace Sys2Proof.Machine

/-- HRD of a target that no more specific row covers, by the whole rule (R271; log entry 9). -/
def execHrd (sz : Size) (addr : Addr) (s : State) : Result := .next (hostRead sz.code addr s)

/-- HRD with the reserved size: 0 is returned, with `e_bad_access` (R116). -/
def execHrdSz3 (s : State) : Result := .next (finishRead 0 (raise .badAccess s))

/-- HRD.ID (R270). -/
def execHrdId (s : State) : Result := readReg .id s

/-- HRD.PARAM (R270). -/
def execHrdParam (s : State) : Result := readReg .param s

/-- HRD.CMD (R270). -/
def execHrdCmd (s : State) : Result := readReg .cmd s

/-- HRD.STATUS (R270). -/
def execHrdStatus (s : State) : Result := readReg .status s

/-- HRD.ERR (R270). -/
def execHrdErr (s : State) : Result := readReg .err s

/-- HRD.RM_REQ (R270). -/
def execHrdRmReq (s : State) : Result := readReg .rmReq s

/-- HRD.RM_DONE (R270). -/
def execHrdRmDone (s : State) : Result := readReg .rmDone s

/-- HRD.HTIM0 (R270). -/
def execHrdHtim0 (s : State) : Result := readReg .htim0 s

/-- HRD.HTIM1 (R270). -/
def execHrdHtim1 (s : State) : Result := readReg .htim1 s

/-- HRD.VTIM0 (R270). -/
def execHrdVtim0 (s : State) : Result := readReg .vtim0 s

/-- HRD.VTIM1 (R270). -/
def execHrdVtim1 (s : State) : Result := readReg .vtim1 s

/-- HRD.SYNC_SA (R270). -/
def execHrdSyncSa (s : State) : Result := readReg .syncSa s

/-- HRD.SA_TOL (R270). -/
def execHrdSaTol (s : State) : Result := readReg .saTol s

/-- HRD.LINE (R270). -/
def execHrdLine (s : State) : Result := readReg .line s

/-- HRD.FRAME (R270). -/
def execHrdFrame (s : State) : Result := readReg .frame s

/-- HRD.SEQ (R270). -/
def execHrdSeq (s : State) : Result := readReg .seq s

/-- HRD.CNT (R270). -/
def execHrdCnt (s : State) : Result := readReg .cnt s

/-- HRD.WDOG (R270). -/
def execHrdWdog (s : State) : Result := readReg .wdog s

/-- HRD.TIMER (R270). -/
def execHrdTimer (s : State) : Result := readReg .timer s

/-- HRD.BUFSTAT[0] (R270). -/
def execHrdBufstat0 (s : State) : Result := readReg (.bufstat 0) s

/-- HRD.BUFTAG[0] (R270). -/
def execHrdBuftag0 (s : State) : Result := readReg (.buftag 0) s

/-- HRD.BUFLINE[0] (R270). -/
def execHrdBufline0 (s : State) : Result := readReg (.bufline 0) s

/-- HRD.BUFSTAT[1] (R270). -/
def execHrdBufstat1 (s : State) : Result := readReg (.bufstat 1) s

/-- HRD.BUFTAG[1] (R270). -/
def execHrdBuftag1 (s : State) : Result := readReg (.buftag 1) s

/-- HRD.BUFLINE[1] (R270). -/
def execHrdBufline1 (s : State) : Result := readReg (.bufline 1) s

/-- HRD.BUFSTAT[2] (R270). -/
def execHrdBufstat2 (s : State) : Result := readReg (.bufstat 2) s

/-- HRD.BUFTAG[2] (R270). -/
def execHrdBuftag2 (s : State) : Result := readReg (.buftag 2) s

/-- HRD.BUFLINE[2] (R270). -/
def execHrdBufline2 (s : State) : Result := readReg (.bufline 2) s

/-- HRD.BUFSTAT[3] (R270). -/
def execHrdBufstat3 (s : State) : Result := readReg (.bufstat 3) s

/-- HRD.BUFTAG[3] (R270). -/
def execHrdBuftag3 (s : State) : Result := readReg (.buftag 3) s

/-- HRD.BUFLINE[3] (R270). -/
def execHrdBufline3 (s : State) : Result := readReg (.bufline 3) s

/-- HRD.BUFSTAT[4] (R270). -/
def execHrdBufstat4 (s : State) : Result := readReg (.bufstat 4) s

/-- HRD.BUFTAG[4] (R270). -/
def execHrdBuftag4 (s : State) : Result := readReg (.buftag 4) s

/-- HRD.BUFLINE[4] (R270). -/
def execHrdBufline4 (s : State) : Result := readReg (.bufline 4) s

/-- HRD.BUFSTAT[5] (R270). -/
def execHrdBufstat5 (s : State) : Result := readReg (.bufstat 5) s

/-- HRD.BUFTAG[5] (R270). -/
def execHrdBuftag5 (s : State) : Result := readReg (.buftag 5) s

/-- HRD.BUFLINE[5] (R270). -/
def execHrdBufline5 (s : State) : Result := readReg (.bufline 5) s

/-- HRD.BUFSTAT[6] (R270). -/
def execHrdBufstat6 (s : State) : Result := readReg (.bufstat 6) s

/-- HRD.BUFTAG[6] (R270). -/
def execHrdBuftag6 (s : State) : Result := readReg (.buftag 6) s

/-- HRD.BUFLINE[6] (R270). -/
def execHrdBufline6 (s : State) : Result := readReg (.bufline 6) s

/-- HRD.BUFSTAT[7] (R270). -/
def execHrdBufstat7 (s : State) : Result := readReg (.bufstat 7) s

/-- HRD.BUFTAG[7] (R270). -/
def execHrdBuftag7 (s : State) : Result := readReg (.buftag 7) s

/-- HRD.BUFLINE[7] (R270). -/
def execHrdBufline7 (s : State) : Result := readReg (.bufline 7) s

/-- HRD.BUF[0] (R243). -/
def execHrdBuf0 (sz : Size) (off : BitVec 12) (s : State) : Result := readWindow 0 sz off s

/-- HRD.BUF[1] (R243). -/
def execHrdBuf1 (sz : Size) (off : BitVec 12) (s : State) : Result := readWindow 1 sz off s

/-- HRD.BUF[2] (R243). -/
def execHrdBuf2 (sz : Size) (off : BitVec 12) (s : State) : Result := readWindow 2 sz off s

/-- HRD.BUF[3] (R243). -/
def execHrdBuf3 (sz : Size) (off : BitVec 12) (s : State) : Result := readWindow 3 sz off s

/-- HRD.BUF[4] (R243). -/
def execHrdBuf4 (sz : Size) (off : BitVec 12) (s : State) : Result := readWindow 4 sz off s

/-- HRD.BUF[5] (R243). -/
def execHrdBuf5 (sz : Size) (off : BitVec 12) (s : State) : Result := readWindow 5 sz off s

/-- HRD.BUF[6] (R243). -/
def execHrdBuf6 (sz : Size) (off : BitVec 12) (s : State) : Result := readWindow 6 sz off s

/-- HRD.BUF[7] (R243). -/
def execHrdBuf7 (sz : Size) (off : BitVec 12) (s : State) : Result := readWindow 7 sz off s

end Sys2Proof.Machine
end

