-- ==== Sys2Proof/Machine/HostWrite.lean ====
section
/-! DEFINITION. The host-bus writes, one meaning for each target of HWR (43_front_end.md R272, 30_encoding.md R115). -/

namespace Sys2Proof.Machine

/-- HWR to a target that no more specific row covers, by the whole rule (R272; log entry 9). -/
def execHwr (sz : Size) (addr : Addr) (data : Word) (s : State) : Result := .next (hostWrite sz.code addr data s)

/-- HWR with the reserved size: nothing changes but `e_bad_access` (R116). -/
def execHwrSz3 (s : State) : Result := .next (dispatchFill (raise .badAccess s))

/-- HWR.ID (R273). -/
def execHwrId (data : Word) (s : State) : Result := writeReg .id data s

/-- HWR.PARAM (R273). -/
def execHwrParam (data : Word) (s : State) : Result := writeReg .param data s

/-- HWR.CMD (R279). -/
def execHwrCmd (data : Word) (s : State) : Result := writeReg .cmd data s

/-- HWR.STATUS (R273). -/
def execHwrStatus (data : Word) (s : State) : Result := writeReg .status data s

/-- HWR.ERR (R274). -/
def execHwrErr (data : Word) (s : State) : Result := writeReg .err data s

/-- HWR.RM_REQ (R273). -/
def execHwrRmReq (data : Word) (s : State) : Result := writeReg .rmReq data s

/-- HWR.RM_DONE (R236). -/
def execHwrRmDone (data : Word) (s : State) : Result := writeReg .rmDone data s

/-- HWR.HTIM0 (R276). -/
def execHwrHtim0 (data : Word) (s : State) : Result := writeReg .htim0 data s

/-- HWR.HTIM1 (R276). -/
def execHwrHtim1 (data : Word) (s : State) : Result := writeReg .htim1 data s

/-- HWR.VTIM0 (R276). -/
def execHwrVtim0 (data : Word) (s : State) : Result := writeReg .vtim0 data s

/-- HWR.VTIM1 (R276). -/
def execHwrVtim1 (data : Word) (s : State) : Result := writeReg .vtim1 data s

/-- HWR.SYNC_SA (R276). -/
def execHwrSyncSa (data : Word) (s : State) : Result := writeReg .syncSa data s

/-- HWR.SA_TOL (R276). -/
def execHwrSaTol (data : Word) (s : State) : Result := writeReg .saTol data s

/-- HWR.LINE (R273). -/
def execHwrLine (data : Word) (s : State) : Result := writeReg .line data s

/-- HWR.FRAME (R273). -/
def execHwrFrame (data : Word) (s : State) : Result := writeReg .frame data s

/-- HWR.SEQ (R273). -/
def execHwrSeq (data : Word) (s : State) : Result := writeReg .seq data s

/-- HWR.CNT (R273). -/
def execHwrCnt (data : Word) (s : State) : Result := writeReg .cnt data s

/-- HWR.WDOG (R273). -/
def execHwrWdog (data : Word) (s : State) : Result := writeReg .wdog data s

/-- HWR.TIMER (R273). -/
def execHwrTimer (data : Word) (s : State) : Result := writeReg .timer data s

/-- HWR.BUFSTAT[0] (R273). -/
def execHwrBufstat0 (data : Word) (s : State) : Result := writeReg (.bufstat 0) data s

/-- HWR.BUFTAG[0] (R273). -/
def execHwrBuftag0 (data : Word) (s : State) : Result := writeReg (.buftag 0) data s

/-- HWR.BUFLINE[0] (R273). -/
def execHwrBufline0 (data : Word) (s : State) : Result := writeReg (.bufline 0) data s

/-- HWR.BUFSTAT[1] (R273). -/
def execHwrBufstat1 (data : Word) (s : State) : Result := writeReg (.bufstat 1) data s

/-- HWR.BUFTAG[1] (R273). -/
def execHwrBuftag1 (data : Word) (s : State) : Result := writeReg (.buftag 1) data s

/-- HWR.BUFLINE[1] (R273). -/
def execHwrBufline1 (data : Word) (s : State) : Result := writeReg (.bufline 1) data s

/-- HWR.BUFSTAT[2] (R273). -/
def execHwrBufstat2 (data : Word) (s : State) : Result := writeReg (.bufstat 2) data s

/-- HWR.BUFTAG[2] (R273). -/
def execHwrBuftag2 (data : Word) (s : State) : Result := writeReg (.buftag 2) data s

/-- HWR.BUFLINE[2] (R273). -/
def execHwrBufline2 (data : Word) (s : State) : Result := writeReg (.bufline 2) data s

/-- HWR.BUFSTAT[3] (R273). -/
def execHwrBufstat3 (data : Word) (s : State) : Result := writeReg (.bufstat 3) data s

/-- HWR.BUFTAG[3] (R273). -/
def execHwrBuftag3 (data : Word) (s : State) : Result := writeReg (.buftag 3) data s

/-- HWR.BUFLINE[3] (R273). -/
def execHwrBufline3 (data : Word) (s : State) : Result := writeReg (.bufline 3) data s

/-- HWR.BUFSTAT[4] (R273). -/
def execHwrBufstat4 (data : Word) (s : State) : Result := writeReg (.bufstat 4) data s

/-- HWR.BUFTAG[4] (R273). -/
def execHwrBuftag4 (data : Word) (s : State) : Result := writeReg (.buftag 4) data s

/-- HWR.BUFLINE[4] (R273). -/
def execHwrBufline4 (data : Word) (s : State) : Result := writeReg (.bufline 4) data s

/-- HWR.BUFSTAT[5] (R273). -/
def execHwrBufstat5 (data : Word) (s : State) : Result := writeReg (.bufstat 5) data s

/-- HWR.BUFTAG[5] (R273). -/
def execHwrBuftag5 (data : Word) (s : State) : Result := writeReg (.buftag 5) data s

/-- HWR.BUFLINE[5] (R273). -/
def execHwrBufline5 (data : Word) (s : State) : Result := writeReg (.bufline 5) data s

/-- HWR.BUFSTAT[6] (R273). -/
def execHwrBufstat6 (data : Word) (s : State) : Result := writeReg (.bufstat 6) data s

/-- HWR.BUFTAG[6] (R273). -/
def execHwrBuftag6 (data : Word) (s : State) : Result := writeReg (.buftag 6) data s

/-- HWR.BUFLINE[6] (R273). -/
def execHwrBufline6 (data : Word) (s : State) : Result := writeReg (.bufline 6) data s

/-- HWR.BUFSTAT[7] (R273). -/
def execHwrBufstat7 (data : Word) (s : State) : Result := writeReg (.bufstat 7) data s

/-- HWR.BUFTAG[7] (R273). -/
def execHwrBuftag7 (data : Word) (s : State) : Result := writeReg (.buftag 7) data s

/-- HWR.BUFLINE[7] (R273). -/
def execHwrBufline7 (data : Word) (s : State) : Result := writeReg (.bufline 7) data s

/-- HWR.BUF[0] (R240). -/
def execHwrBuf0 (sz : Size) (off : BitVec 12) (data : Word) (s : State) : Result := writeWindow 0 sz off data s

/-- HWR.BUF[1] (R240). -/
def execHwrBuf1 (sz : Size) (off : BitVec 12) (data : Word) (s : State) : Result := writeWindow 1 sz off data s

/-- HWR.BUF[2] (R240). -/
def execHwrBuf2 (sz : Size) (off : BitVec 12) (data : Word) (s : State) : Result := writeWindow 2 sz off data s

/-- HWR.BUF[3] (R240). -/
def execHwrBuf3 (sz : Size) (off : BitVec 12) (data : Word) (s : State) : Result := writeWindow 3 sz off data s

/-- HWR.BUF[4] (R240). -/
def execHwrBuf4 (sz : Size) (off : BitVec 12) (data : Word) (s : State) : Result := writeWindow 4 sz off data s

/-- HWR.BUF[5] (R240). -/
def execHwrBuf5 (sz : Size) (off : BitVec 12) (data : Word) (s : State) : Result := writeWindow 5 sz off data s

/-- HWR.BUF[6] (R240). -/
def execHwrBuf6 (sz : Size) (off : BitVec 12) (data : Word) (s : State) : Result := writeWindow 6 sz off data s

/-- HWR.BUF[7] (R240). -/
def execHwrBuf7 (sz : Size) (off : BitVec 12) (data : Word) (s : State) : Result := writeWindow 7 sz off data s

end Sys2Proof.Machine
end

