-- ==== Sys2Proof/Machine/LineService.lean ====
section
/-! DEFINITION. LTSVC, the line handler (40_horizontal_fsm.md R160 to R178). -/

namespace Sys2Proof.Machine

/-- What the advance over lines counts (R160): the line state reached, the visible lines skipped, the frame wraps. -/
structure Progress where
  line : Count
  seq : BitVec 32
  frame : BitVec 32
  skippedVis : Nat
  wraps : Nat
  deriving DecidableEq, Repr

/-- One line advanced over (R162, R165); `last` tells the line the service ends on from a skipped one. -/
def advanceLine (m : Mode) (last : Bool) (p : Progress) : Progress :=
  let wrap := decide (p.line.toNat + 1 = m.lTotal.toNat)
  let line := nextLine m p.line
  { line := line
    seq := p.seq + 1
    frame := if wrap then p.frame + 1 else p.frame
    skippedVis := if !last && decide (vb m ≤ line.toNat) then p.skippedVis + 1 else p.skippedVis
    wraps := if wrap then p.wraps + 1 else p.wraps }

/-- `k` lines advanced over, the last of them not skipped (R161, R162). -/
def advanceLines (m : Mode) : Nat → Progress → Progress
  | 0, p => p
  | k + 1, p => advanceLines m k (advanceLine m (k == 0) p)

/-- The advance count `k` (R161). -/
def advanceCount (s : State) : Nat := 1 + (if s.tmr.resyncReq then s.tmr.ltLost.toNat else 0)

/-- The advance this service makes. -/
def serviceProgress (s : State) : Progress :=
  advanceLines s.mode (advanceCount s) ⟨s.ln.line, s.ln.seq, s.ln.frame, 0, 0⟩

/-- The line state takes the advance and the new region (R162, R165, R166). -/
def moveLine (p : Progress) (s : State) : State :=
  { s with ln := { s.ln with line := p.line, seq := p.seq, frame := p.frame, region := regionOf s.mode p.line } }

/-- The frame-completion signal, once, with the final frame value (R165). -/
def signalFrame (p : Progress) (s : State) : State := if 0 < p.wraps then emit (.frameIrq p.frame) s else s

/-- What a line service does to a buffer made for a line that has passed (R168). -/
def withdrawBuf (seq : BitVec 32) (x : Buf) : Buf :=
  match x.own with
  | .filling => { x with discard := true }
  | .ready => if x.tag = seq then x else { x with own := .free }
  | .free => x
  | .xfer => x

/-- Stale work is withdrawn: the waiting request, the fills in service, the ready buffers of other lines (R168). -/
def withdrawStale (s : State) : State :=
  mapBufs (withdrawBuf s.ln.seq) { s with rm := { s.rm with pend := false } }

/-- The READY buffer filled for this line, if there is one (R160). Reachable states have at most one (R65 item 4); the
least is taken (log entry 12). -/
def readyForLine (s : State) : Option (Fin 8) :=
  firstBuf (fun x => decide (x.own = .ready) && decide (x.tag = s.ln.seq)) s

/-- The new line is a deadline miss: it is visible and has no ready buffer, or is serviced when its active video has begun
(R170, R171). -/
def lineMissed (s : State) : Bool :=
  decide (s.ln.region = .visible) &&
    match readyForLine s with
    | none => true
    | some _ => decide (s.mode.bpEnd.toNat ≤ s.tmr.ltCnt.toNat)

/-- The line is handed its buffer: on a visible line in time with output enabled it is armed, otherwise it is freed
(R169 to R171). -/
def armLine (s : State) : State :=
  match readyForLine s with
  | none => s
  | some r =>
    if s.ln.region = .visible ∧ s.tmr.ltCnt.toNat < s.mode.bpEnd.toNat ∧ s.ctl.outEn = true then
      emit (.dmaArm r (s.buf r).vrange)
        { setOwn r .xfer s with xfer := { xst := .armed, xbuf := r, xlen := (s.buf r).vrange } }
    else setOwn r .free s

/-- The request for the next line, when that line is visible (R172). -/
def requestNext (s : State) : State :=
  let nxt := nextLine s.mode s.ln.line
  if vb s.mode ≤ nxt.toNat then
    { s with rm := { s.rm with
        pend := true
        pendSeq := s.ln.seq + 1
        pendLine := BitVec.ofNat 16 (nxt.toNat - vb s.mode) } }
  else s

/-- The deadline flag and count of the new line (R173), from the lines missed and skipped and from a resynchronization
`applied`. -/
def accountMiss (missed : Bool) (skipped : Nat) (applied : Bool) (s : State) : State :=
  { s with ln := { s.ln with
      miss := missed || decide (0 < skipped) || applied
      missCnt := satAdd 16 s.ln.missCnt (skipped + missed.toNat) } }

/-- What a service leaves in the timers and the engine state: a resynchronization applied is over (R174), the engine state
follows the region (R175), the watchdog starts again (R176), the firing is serviced (R160). -/
def settleService (applied : Bool) (s : State) : State :=
  { s with
    ctl := { s.ctl with hsm := if s.ln.region = .visible then .activeVisible else .activeBlank }
    tmr := { s.tmr with
      ltPend := false
      wdCnt := 0
      ltLost := if applied then 0 else s.tmr.ltLost
      resyncReq := if applied then false else s.tmr.resyncReq } }

/-- The service up to the arming: the advance, the frame signal, and the withdrawal of stale work (R160). -/
def enterLine (s : State) : State :=
  withdrawStale (moveLine (serviceProgress s) (signalFrame (serviceProgress s) s))

/-- One line service (R160). -/
def lineService (s : State) : State :=
  dispatchFill (settleService s.tmr.resyncReq
    (accountMiss (lineMissed (enterLine s)) (serviceProgress s).skippedVis s.tmr.resyncReq
      (requestNext (armLine (enterLine s)))))

/-- LTSVC (R160), taken only when the arbiter grants it (R212; log entry 5). -/
def execLtsvc (s : State) : Result :=
  if lineServiceEnabled s then .next (lineService s) else .refused .lineServiceNotGranted

end Sys2Proof.Machine
end

