-- ==== Sys2Proof/Machine/Resync.lean ====
section
/-! DEFINITION. SASVC, the shock absorber (41_resync_arbiter.md R200 to R206). -/

namespace Sys2Proof.Machine

/-- The answer to a divergence: a resynchronization is requested, marked and counted (R202). -/
def requestResync (s : State) : State :=
  { s with
    tmr := { s.tmr with resyncReq := true }
    ctl := { s.ctl with hsm := .resyncing }
    ln := { s.ln with miss := true, resyncCnt := satAdd 16 s.ln.resyncCnt 1 } }

/-- One shock-absorber service (R200). -/
def shockService (s : State) : State :=
  let s1 := { s with tmr := { s.tmr with saPend := false } }
  dispatchFill (if diverged s1 then requestResync s1 else s1)

/-- SASVC (R200), taken only when the arbiter grants it (R212; log entry 5). -/
def execSasvc (s : State) : Result :=
  if shockServiceEnabled s then .next (shockService s) else .refused .shockServiceNotGranted

end Sys2Proof.Machine
end

