-- ==== Sys2Proof/Machine/Tick.lean ====
section
/-! DEFINITION. TICK, one tick of the time base (40_horizontal_fsm.md R150 to R159). -/

namespace Sys2Proof.Machine

/-- The line timer wraps at this tick: `zext_17(lt_cnt) + 1 == T_LINE` (R150, R152). -/
def timerWraps (s : State) : Bool := decide (s.tmr.ltCnt.toNat + 1 = s.mode.tLine.toNat)

/-- The line timer and the watchdog count (R152, R153). -/
def countTick (s : State) : State :=
  { s with tmr := { s.tmr with
      ltCnt := if timerWraps s then 0 else s.tmr.ltCnt + 1
      wdCnt := satAdd 16 s.tmr.wdCnt 1 } }

/-- A line-timer wrap: the shock-absorber divider advances (R154), and the firing is suppressed, lost or made pending
(R155). -/
def lineFiring (s : State) : State :=
  let div := if s.tmr.saDivCnt.toNat + 1 = s.mode.saDiv.toNat then 0 else s.tmr.saDivCnt + 1
  if s.tmr.ltSupp then
    { s with tmr := { s.tmr with saDivCnt := div, ltSupp := false, ltLost := satAdd 8 s.tmr.ltLost 1 } }
  else if s.tmr.ltPend then
    { s with tmr := { s.tmr with saDivCnt := div, ltLost := satAdd 8 s.tmr.ltLost 1 } }
  else
    { s with tmr := { s.tmr with saDivCnt := div, ltPend := true } }

/-- The shock-absorber timer fires at `lt_cnt = SA_PHASE` in lines with `sa_div_cnt = 0` (R156). -/
def shockFiring (s : State) : State :=
  if s.tmr.ltCnt = s.mode.saPhase ∧ s.tmr.saDivCnt = 0 then { s with tmr := { s.tmr with saPend := true } } else s

/-- Start of active video: an armed buffer starts streaming at `BP_END` (R157). -/
def startVideo (s : State) : State :=
  if s.tmr.ltCnt = s.mode.bpEnd ∧ s.xfer.xst = .armed then
    emit (.dmaStart s.xfer.xbuf s.xfer.xlen) { s with xfer := { s.xfer with xst := .streaming } }
  else s

/-- End of active video: a streaming transfer ends at `ACT_END` and its buffer is freed (R158). -/
def endVideo (s : State) : State :=
  if s.tmr.ltCnt = s.mode.actEnd ∧ s.xfer.xst = .streaming then
    { setOwn s.xfer.xbuf .free (emit (.dmaStop s.xfer.xbuf) s) with xfer := { s.xfer with xst := .idle } }
  else s

/-- The timers at a tick while rastering: the counts, the firing of a wrap, and the shock-absorber firing (R150). -/
def tickTimers (s : State) : State :=
  shockFiring (if timerWraps s then lineFiring (countTick s) else countTick s)

/-- One tick (R150); outside rastering only Dispatch runs (R151). -/
def tick (s : State) : State :=
  if s.ctl.drv = .rastering then dispatchFill (endVideo (startVideo (tickTimers s)))
  else dispatchFill s

/-- TICK (R150). -/
def execTick (s : State) : Result := .next (tick s)

end Sys2Proof.Machine
end

