-- ==== Sys2Proof/Machine/Dispatch.lean ====
section
/-! DEFINITION. The meaning of each operation, one arm for each constructor of `Instr`. -/

namespace Sys2Proof.Machine

def exec (i : Instr) (s : State) : Host.Outcome State Fault Refusal :=
  match i with
  | .tick => Sys2Proof.Machine.execTick s
  | .hwr sz addr data => Sys2Proof.Machine.execHwr sz addr data s
  | .hrd sz addr => Sys2Proof.Machine.execHrd sz addr s
  | .drd off => Sys2Proof.Machine.execDrd off s
  | .ltsvc => Sys2Proof.Machine.execLtsvc s
  | .sasvc => Sys2Proof.Machine.execSasvc s
  | .rst => Sys2Proof.Machine.execRst s
  | .periph v => Sys2Proof.Machine.execPeriph v s
  | .reservedOp code => Sys2Proof.Machine.execReservedOp code s
  | .hwrSz3 => Sys2Proof.Machine.execHwrSz3 s
  | .hrdSz3 => Sys2Proof.Machine.execHrdSz3 s
  | .hwrId data => Sys2Proof.Machine.execHwrId data s
  | .hrdId => Sys2Proof.Machine.execHrdId s
  | .hwrParam data => Sys2Proof.Machine.execHwrParam data s
  | .hrdParam => Sys2Proof.Machine.execHrdParam s
  | .hwrCmd data => Sys2Proof.Machine.execHwrCmd data s
  | .hrdCmd => Sys2Proof.Machine.execHrdCmd s
  | .hwrStatus data => Sys2Proof.Machine.execHwrStatus data s
  | .hrdStatus => Sys2Proof.Machine.execHrdStatus s
  | .hwrErr data => Sys2Proof.Machine.execHwrErr data s
  | .hrdErr => Sys2Proof.Machine.execHrdErr s
  | .hwrRmReq data => Sys2Proof.Machine.execHwrRmReq data s
  | .hrdRmReq => Sys2Proof.Machine.execHrdRmReq s
  | .hwrRmDone data => Sys2Proof.Machine.execHwrRmDone data s
  | .hrdRmDone => Sys2Proof.Machine.execHrdRmDone s
  | .hwrHtim0 data => Sys2Proof.Machine.execHwrHtim0 data s
  | .hrdHtim0 => Sys2Proof.Machine.execHrdHtim0 s
  | .hwrHtim1 data => Sys2Proof.Machine.execHwrHtim1 data s
  | .hrdHtim1 => Sys2Proof.Machine.execHrdHtim1 s
  | .hwrVtim0 data => Sys2Proof.Machine.execHwrVtim0 data s
  | .hrdVtim0 => Sys2Proof.Machine.execHrdVtim0 s
  | .hwrVtim1 data => Sys2Proof.Machine.execHwrVtim1 data s
  | .hrdVtim1 => Sys2Proof.Machine.execHrdVtim1 s
  | .hwrSyncSa data => Sys2Proof.Machine.execHwrSyncSa data s
  | .hrdSyncSa => Sys2Proof.Machine.execHrdSyncSa s
  | .hwrSaTol data => Sys2Proof.Machine.execHwrSaTol data s
  | .hrdSaTol => Sys2Proof.Machine.execHrdSaTol s
  | .hwrLine data => Sys2Proof.Machine.execHwrLine data s
  | .hrdLine => Sys2Proof.Machine.execHrdLine s
  | .hwrFrame data => Sys2Proof.Machine.execHwrFrame data s
  | .hrdFrame => Sys2Proof.Machine.execHrdFrame s
  | .hwrSeq data => Sys2Proof.Machine.execHwrSeq data s
  | .hrdSeq => Sys2Proof.Machine.execHrdSeq s
  | .hwrCnt data => Sys2Proof.Machine.execHwrCnt data s
  | .hrdCnt => Sys2Proof.Machine.execHrdCnt s
  | .hwrWdog data => Sys2Proof.Machine.execHwrWdog data s
  | .hrdWdog => Sys2Proof.Machine.execHrdWdog s
  | .hwrTimer data => Sys2Proof.Machine.execHwrTimer data s
  | .hrdTimer => Sys2Proof.Machine.execHrdTimer s
  | .hwrBufstat0 data => Sys2Proof.Machine.execHwrBufstat0 data s
  | .hrdBufstat0 => Sys2Proof.Machine.execHrdBufstat0 s
  | .hwrBuftag0 data => Sys2Proof.Machine.execHwrBuftag0 data s
  | .hrdBuftag0 => Sys2Proof.Machine.execHrdBuftag0 s
  | .hwrBufline0 data => Sys2Proof.Machine.execHwrBufline0 data s
  | .hrdBufline0 => Sys2Proof.Machine.execHrdBufline0 s
  | .hwrBufstat1 data => Sys2Proof.Machine.execHwrBufstat1 data s
  | .hrdBufstat1 => Sys2Proof.Machine.execHrdBufstat1 s
  | .hwrBuftag1 data => Sys2Proof.Machine.execHwrBuftag1 data s
  | .hrdBuftag1 => Sys2Proof.Machine.execHrdBuftag1 s
  | .hwrBufline1 data => Sys2Proof.Machine.execHwrBufline1 data s
  | .hrdBufline1 => Sys2Proof.Machine.execHrdBufline1 s
  | .hwrBufstat2 data => Sys2Proof.Machine.execHwrBufstat2 data s
  | .hrdBufstat2 => Sys2Proof.Machine.execHrdBufstat2 s
  | .hwrBuftag2 data => Sys2Proof.Machine.execHwrBuftag2 data s
  | .hrdBuftag2 => Sys2Proof.Machine.execHrdBuftag2 s
  | .hwrBufline2 data => Sys2Proof.Machine.execHwrBufline2 data s
  | .hrdBufline2 => Sys2Proof.Machine.execHrdBufline2 s
  | .hwrBufstat3 data => Sys2Proof.Machine.execHwrBufstat3 data s
  | .hrdBufstat3 => Sys2Proof.Machine.execHrdBufstat3 s
  | .hwrBuftag3 data => Sys2Proof.Machine.execHwrBuftag3 data s
  | .hrdBuftag3 => Sys2Proof.Machine.execHrdBuftag3 s
  | .hwrBufline3 data => Sys2Proof.Machine.execHwrBufline3 data s
  | .hrdBufline3 => Sys2Proof.Machine.execHrdBufline3 s
  | .hwrBufstat4 data => Sys2Proof.Machine.execHwrBufstat4 data s
  | .hrdBufstat4 => Sys2Proof.Machine.execHrdBufstat4 s
  | .hwrBuftag4 data => Sys2Proof.Machine.execHwrBuftag4 data s
  | .hrdBuftag4 => Sys2Proof.Machine.execHrdBuftag4 s
  | .hwrBufline4 data => Sys2Proof.Machine.execHwrBufline4 data s
  | .hrdBufline4 => Sys2Proof.Machine.execHrdBufline4 s
  | .hwrBufstat5 data => Sys2Proof.Machine.execHwrBufstat5 data s
  | .hrdBufstat5 => Sys2Proof.Machine.execHrdBufstat5 s
  | .hwrBuftag5 data => Sys2Proof.Machine.execHwrBuftag5 data s
  | .hrdBuftag5 => Sys2Proof.Machine.execHrdBuftag5 s
  | .hwrBufline5 data => Sys2Proof.Machine.execHwrBufline5 data s
  | .hrdBufline5 => Sys2Proof.Machine.execHrdBufline5 s
  | .hwrBufstat6 data => Sys2Proof.Machine.execHwrBufstat6 data s
  | .hrdBufstat6 => Sys2Proof.Machine.execHrdBufstat6 s
  | .hwrBuftag6 data => Sys2Proof.Machine.execHwrBuftag6 data s
  | .hrdBuftag6 => Sys2Proof.Machine.execHrdBuftag6 s
  | .hwrBufline6 data => Sys2Proof.Machine.execHwrBufline6 data s
  | .hrdBufline6 => Sys2Proof.Machine.execHrdBufline6 s
  | .hwrBufstat7 data => Sys2Proof.Machine.execHwrBufstat7 data s
  | .hrdBufstat7 => Sys2Proof.Machine.execHrdBufstat7 s
  | .hwrBuftag7 data => Sys2Proof.Machine.execHwrBuftag7 data s
  | .hrdBuftag7 => Sys2Proof.Machine.execHrdBuftag7 s
  | .hwrBufline7 data => Sys2Proof.Machine.execHwrBufline7 data s
  | .hrdBufline7 => Sys2Proof.Machine.execHrdBufline7 s
  | .hwrBuf0 sz off data => Sys2Proof.Machine.execHwrBuf0 sz off data s
  | .hrdBuf0 sz off => Sys2Proof.Machine.execHrdBuf0 sz off s
  | .hwrBuf1 sz off data => Sys2Proof.Machine.execHwrBuf1 sz off data s
  | .hrdBuf1 sz off => Sys2Proof.Machine.execHrdBuf1 sz off s
  | .hwrBuf2 sz off data => Sys2Proof.Machine.execHwrBuf2 sz off data s
  | .hrdBuf2 sz off => Sys2Proof.Machine.execHrdBuf2 sz off s
  | .hwrBuf3 sz off data => Sys2Proof.Machine.execHwrBuf3 sz off data s
  | .hrdBuf3 sz off => Sys2Proof.Machine.execHrdBuf3 sz off s
  | .hwrBuf4 sz off data => Sys2Proof.Machine.execHwrBuf4 sz off data s
  | .hrdBuf4 sz off => Sys2Proof.Machine.execHrdBuf4 sz off s
  | .hwrBuf5 sz off data => Sys2Proof.Machine.execHwrBuf5 sz off data s
  | .hrdBuf5 sz off => Sys2Proof.Machine.execHrdBuf5 sz off s
  | .hwrBuf6 sz off data => Sys2Proof.Machine.execHwrBuf6 sz off data s
  | .hrdBuf6 sz off => Sys2Proof.Machine.execHrdBuf6 sz off s
  | .hwrBuf7 sz off data => Sys2Proof.Machine.execHwrBuf7 sz off data s
  | .hrdBuf7 sz off => Sys2Proof.Machine.execHrdBuf7 sz off s
  | .nop => Sys2Proof.Machine.execNop s
  | .configure => Sys2Proof.Machine.execConfigure s
  | .start => Sys2Proof.Machine.execStart s
  | .stop => Sys2Proof.Machine.execStop s
  | .setOutput en => Sys2Proof.Machine.execSetOutput en s
  | .injectLtSuppress => Sys2Proof.Machine.execInjectLtSuppress s
  | .reservedCmd code => Sys2Proof.Machine.execReservedCmd code s

end Sys2Proof.Machine
end

