-- ==== Sys2Proof/Machine/Step.lean ====
section
/-! DEFINITION. One step: the operation at the head of the schedule is taken (00_scope.md R2, R19). -/

namespace Sys2Proof.Machine

/-- One step. With nothing scheduled there is no step (R19; log entry 4). -/
def step (s : State) : Host.Outcome State Fault Refusal :=
  match s.inputs with
  | [] => .refused .noOperation
  | w :: rest => exec (decode w) (beginStep rest s)

/-- `s` with the operation of table word `w` scheduled first, so that the next step takes it (log entry 6). -/
def State.withFetchWord (s : State) (nbits w : Nat) : State := placeFirst (tableWord nbits w) s

end Sys2Proof.Machine
end

