-- ==== Sys2Proof/Machine/Outputs.lean ====
section
/-! DEFINITION. The level outputs, functions of the state after each step (10_state.md R63). -/

namespace Sys2Proof.Machine

/-- `hsync_o` (R63). -/
def hsyncO (s : State) : Bool :=
  if s.ctl.drv = .rastering ∧ s.tmr.ltCnt.toNat < s.mode.hsEnd.toNat then s.mode.hsPol else !s.mode.hsPol

/-- `vsync_o` (R63). -/
def vsyncO (s : State) : Bool :=
  if s.ctl.drv = .rastering ∧ s.ln.region = .vsync then s.mode.vsPol else !s.mode.vsPol

/-- `de_o`: pixel data being streamed (R63). -/
def deO (s : State) : Bool := decide (s.xfer.xst = .streaming)

/-- `rm_irq`: the raster-maintenance interrupt request (R63, R330). -/
def rmIrq (s : State) : Bool := s.rm.busy

end Sys2Proof.Machine
end

