-- ==== Sys2Proof/Machine/Schedule.lean ====
section
/-! DEFINITION. Schedules: the assembler lines and pseudo-instructions of 30_encoding.md R130 to R132, the ideal schedule
(41_resync_arbiter.md R214), and the host's poll for a frame boundary (43_front_end.md R296). -/

namespace Sys2Proof.Machine

/-- `tick` (R130, R132). -/
def asmTick : OpWord := encode .tick

/-- `svc.lt` (R130, R132). -/
def asmSvcLt : OpWord := encode .ltsvc

/-- `svc.sa` (R130, R132). -/
def asmSvcSa : OpWord := encode .sasvc

/-- `rst` (R130, R132). -/
def asmRst : OpWord := encode .rst

/-- `periph v` (R130, R132). -/
def asmPeriph (v : Bool) : OpWord := encode (.periph v)

/-- `dmard o` (R130, R132). -/
def asmDmard (o : Addr) : OpWord := encode (.drd o)

/-- `wr a, d`, with a register name for its offset (R130). -/
def asmWr (r : HostReg) (d : Word) : OpWord := hwrWord .word r.offset d

/-- `rd a`, with a register name for its offset (R130). -/
def asmRd (r : HostReg) : OpWord := hrdWord .word r.offset

/-- `wr.b`, `wr.h` or `wr` at `BUF(b) + o` (R130). -/
def asmBufWr (n : Size) (b : Fin 8) (o : BitVec 12) (d : Word) : OpWord := hwrWord n (windowAddr b o) d

/-- `rd.b`, `rd.h` or `rd` at `BUF(b) + o` (R130). -/
def asmBufRd (n : Size) (b : Fin 8) (o : BitVec 12) : OpWord := hrdWord n (windowAddr b o)

/-- `cmd NOP`, `cmd CONFIGURE`, `cmd START`, `cmd STOP`, `cmd SUPPRESS`: a word write of the code to CMD (R131). -/
def asmCmd (code : BitVec 8) : OpWord := asmWr .cmd (code.setWidth 32)

/-- `cmd SETOUT v` (R131). -/
def asmSetout (v : Bool) : OpWord := asmWr .cmd (0x04#32 ||| (BitVec.ofBool v).setWidth 32 <<< 8)

/-- `rmdone n` (R131). -/
def asmRmdone (n : Word) : OpWord := asmWr .rmDone n

/-- `mode ...`: the six mode-register writes (R131). -/
def asmMode (m : Mode) : List OpWord :=
  [ asmWr .htim0 (m.hsEnd ++ m.tLine),
    asmWr .htim1 (m.actEnd ++ m.bpEnd),
    asmWr .vtim0 (m.lVis ++ m.lTotal),
    asmWr .vtim1 (m.vsEnd ++ m.vsStart),
    asmWr .syncSa (m.saPhase ++ m.saDiv ++ 0#6 ++ BitVec.ofBool m.vsPol ++ BitVec.ofBool m.hsPol),
    asmWr .saTol (m.saTol.setWidth 32) ]

/-- Continues with the next operation of a schedule where the last one gave a state. -/
def andThen (r : Result) (f : State → Result) : Result :=
  match r with
  | .next s => f s
  | .fault x => .fault x
  | .refused x => .refused x

/-- Serves a pending line-timer firing (R214). -/
def serveLine (s : State) : Result := if s.tmr.ltPend then exec .ltsvc s else .next s

/-- Serves a pending shock-absorber firing (R214). -/
def serveShock (s : State) : Result := if s.tmr.saPend then exec .sasvc s else .next s

/-- `itick`, a tick under the ideal schedule: every firing is served at the tick that raised it, the line handler before
the shock absorber (R131, R214). -/
def itick (s : State) : Result := andThen (andThen (exec .tick s) serveLine) serveShock

/-- `itick N` (R131). -/
def iticks : Nat → State → Result
  | 0, s => .next s
  | n + 1, s => andThen (itick s) (iticks n)

/-- `sync_to_vblank` (R296): the number of polls of FRAME it makes before it returns, from the value `f0` read first and
the values the polls read; none where they end before it returns. -/
def syncToVblank (f0 : Word) : List Word → Option Nat
  | [] => none
  | f :: rest => if f = f0 then (syncToVblank f0 rest).map (· + 1) else some 1

end Sys2Proof.Machine
end

