-- ==== Sys2Proof/Safety.lean ====
section
/-! DEFINITION. What a safe state is: the invariant of 10_state.md R65, item by item, with what it needs to be kept by every
step; and the lock step of the ideal schedule (41_resync_arbiter.md R214). -/

namespace Sys2Proof.Machine

/-- The parameters are in their ranges (R11, R12), and a slot beyond NBUF, being no buffer, stays as reset left it. -/
def ParamsInRange (s : State) : Prop :=
  s.params.wf = true ∧ ∀ b : Fin 8, s.hasBuf b = false → s.buf b = Buf.reset

/-- R65 item 1. -/
def EngineRuns (s : State) : Prop := s.ctl.drv = .rastering ↔ s.ctl.hsm ≠ .idle

/-- R65 item 2: a fill is in service exactly when one buffer is FILLING, and it is the buffer of the request. -/
def FillIsInService (s : State) : Prop :=
  ∀ b : Fin 8, (s.buf b).own = .filling ↔ (s.rm.busy = true ∧ s.rm.buf = b)

/-- R65 item 3: a transfer is under way exactly when one buffer is XFER, and it is the handed-over buffer. -/
def TransferHasBuffer (s : State) : Prop :=
  (∀ b : Fin 8, (s.buf b).own = .xfer ↔ (s.xfer.xst ≠ .idle ∧ s.xfer.xbuf = b)) ∧
  (s.xfer.xst ≠ .idle → s.xfer.xlen = (s.buf s.xfer.xbuf).vrange)

/-- R65 item 4. -/
def AtMostOneReady (s : State) : Prop :=
  ∀ b c : Fin 8, (s.buf b).own = .ready → (s.buf c).own = .ready → b = c

/-- R65 item 5. -/
def DiscardOnlyFilling (s : State) : Prop :=
  ∀ b : Fin 8, (s.buf b).discard = true → (s.buf b).own = .filling

/-- R65 item 6. -/
def RangesInBounds (s : State) : Prop :=
  ∀ b : Fin 8, (s.buf b).vrange.toNat ≤ s.params.bufBytes

/-- R65 item 7: a request waits only for the raster-maintenance context or for a free buffer. -/
def WaitingForCause (s : State) : Prop :=
  s.rm.pend = true → s.rm.busy = true ∨ ∀ b : Fin 8, s.hasBuf b = true → (s.buf b).own ≠ .free

/-- R65 item 8. -/
def RasterInRange (s : State) : Prop :=
  s.ctl.drv = .rastering →
    s.tmr.ltCnt.toNat < s.mode.tLine.toNat ∧ s.ln.line.toNat < s.mode.lTotal.toNat ∧
    s.tmr.saDivCnt.toNat < s.mode.saDiv.toNat ∧ modeOk s.mode = true

/-- R65 item 9: a state in which LTSVC can be taken has no transfer under way. -/
def ServiceFindsIdle (s : State) : Prop :=
  lineServiceEnabled s = true → s.xfer.xst = .idle

/-- The modes of CONFIGURED, RASTERING and STOPPED are accepted ones (43_front_end.md R276). -/
def ModeAccepted (s : State) : Prop := s.ctl.drv ≠ .uninit → modeOk s.mode = true

/-- A transfer is under way only while rastering, between its arming and the end of active video of its line
(40_horizontal_fsm.md R169, R171, R177). -/
def TransferInPhase (s : State) : Prop :=
  s.xfer.xst ≠ .idle →
    s.ctl.drv = .rastering ∧ s.tmr.ltPend = false ∧
    (s.xfer.xst = .armed → s.tmr.ltCnt.toNat < s.mode.bpEnd.toNat) ∧
    (s.xfer.xst = .streaming →
      s.mode.bpEnd.toNat ≤ s.tmr.ltCnt.toNat ∧ s.tmr.ltCnt.toNat < s.mode.actEnd.toNat)

/-- At most one line is being prepared: while a request waits or a buffer is READY, every fill is discarded, and while a
request waits no buffer is READY (40_horizontal_fsm.md R168, R172). -/
def OneLineInPreparation (s : State) : Prop :=
  (s.rm.pend = true → ∀ b : Fin 8, (s.buf b).own ≠ .ready ∧ ((s.buf b).own = .filling → (s.buf b).discard = true)) ∧
  (∀ b c : Fin 8, (s.buf b).own = .ready → (s.buf c).own = .filling → (s.buf c).discard = true)

/-- Outside rastering nothing is pending, requested or ready, and every fill is discarded (R151, R287). -/
def QuietOutsideRaster (s : State) : Prop :=
  s.ctl.drv ≠ .rastering →
    s.tmr.ltPend = false ∧ s.tmr.saPend = false ∧ s.tmr.ltSupp = false ∧ s.tmr.resyncReq = false ∧
    s.ln.miss = false ∧ s.rm.pend = false ∧
    ∀ b : Fin 8, (s.buf b).own ≠ .ready ∧ ((s.buf b).own = .filling → (s.buf b).discard = true)

/-- The engine is RESYNCING exactly while a resynchronization is requested (R46, R202, R175). -/
def ResyncIsMarked (s : State) : Prop := s.tmr.resyncReq = true ↔ s.ctl.hsm = .resyncing

/-- While rastering the region is the region of the line, and the active states agree with it (R46, R57, R166). -/
def RegionFollowsLine (s : State) : Prop :=
  (s.ctl.drv = .rastering → s.ln.region = regionOf s.mode s.ln.line) ∧
  (s.ctl.hsm = .activeVisible → s.ln.region = .visible) ∧
  (s.ctl.hsm = .activeBlank → s.ln.region ≠ .visible)

/-- An address of the buffer storage: byte `o < BUF_BYTES` of a buffer `b < NBUF` (R61, R82). -/
def storageAddr (p : Params) (a : Nat) : Bool :=
  decide (0x1000 ≤ a) && decide (a / 0x1000 - 1 < p.nbuf) && decide (a % 0x1000 < p.bufBytes)

/-- The buffer storage is in its canonical form and lists only bytes that exist. -/
def StorageOk (s : State) : Prop :=
  Memory.wf s.mem = true ∧ ∀ c ∈ s.mem, storageAddr s.params c.1 = true

/-- The invariant (R65), with what it needs to be inductive. -/
structure Inv (s : State) : Prop where
  params : ParamsInRange s
  engine : EngineRuns s
  fill : FillIsInService s
  transfer : TransferHasBuffer s
  oneReady : AtMostOneReady s
  discardFilling : DiscardOnlyFilling s
  ranges : RangesInBounds s
  waiting : WaitingForCause s
  raster : RasterInRange s
  serviceIdle : ServiceFindsIdle s
  accepted : ModeAccepted s
  phase : TransferInPhase s
  onePreparation : OneLineInPreparation s
  quiet : QuietOutsideRaster s
  resync : ResyncIsMarked s
  region : RegionFollowsLine s
  storage : StorageOk s

/-- The handlers keep pace with the line timer: the block is rastering, no firing is pending, lost or to be suppressed, no
resynchronization is requested, and the line handler ran at the start of this real line (or, before its first run, START
did). Under the ideal schedule a raster stays in it (41_resync_arbiter.md R214, R201). -/
structure LockStep (s : State) : Prop where
  inv : Inv s
  rastering : s.ctl.drv = .rastering
  noLinePending : s.tmr.ltPend = false
  noShockPending : s.tmr.saPend = false
  noSuppression : s.tmr.ltSupp = false
  nothingLost : s.tmr.ltLost = 0
  noResync : s.tmr.resyncReq = false
  latencyZero : s.tmr.wdCnt = s.tmr.ltCnt

/-- The frame value a frame-completion signal carries (R64, R165). -/
def frameOf : Event → Option (BitVec 32)
  | .frameIrq n => some n
  | _ => none

/-- The sticky error bits that are set, by name (R322). -/
def errBit (s : State) : ErrBit → Bool
  | .badState => s.err.badState
  | .badCmd => s.err.badCmd
  | .ownViol => s.err.ownViol
  | .bounds => s.err.bounds
  | .clamped => s.err.clamped
  | .badAccess => s.err.badAccess

end Sys2Proof.Machine
end

