-- ==== Sys2Proof/WellFormed.lean ====
section
/-! DEFINITION. Well-formed operations: the operand values each row of spec/opcode_table.json admits. Four constructors
have a check: a reserved code must be one the spec reserves (30_encoding.md R113, R122), and a plain HWR or HRD must not
spell a word that a more specific row covers (R115). -/

namespace Sys2Proof

/-- An access that a row HWR.<register>, HRD.<register>, HWR.BUF[b] or HRD.BUF[b] covers (R115). -/
def coveredTarget (n : Size) (a : Addr) : Bool :=
  inWindow a || (decide (n = .word) && (HostReg.ofOffset? a).isSome)

/-- The checks on an operation's operands. -/
def Instr.wellFormed : Instr → Bool
  | .tick => true
  | .hwr sz addr _ => !coveredTarget sz addr
  | .hrd sz addr => !coveredTarget sz addr
  | .drd _ => true
  | .ltsvc => true
  | .sasvc => true
  | .rst => true
  | .periph _ => true
  | .reservedOp code => code == 0#8 || decide (9 ≤ code.toNat)
  | .hwrSz3 => true
  | .hrdSz3 => true
  | .hwrId _ => true
  | .hrdId => true
  | .hwrParam _ => true
  | .hrdParam => true
  | .hwrCmd _ => true
  | .hrdCmd => true
  | .hwrStatus _ => true
  | .hrdStatus => true
  | .hwrErr _ => true
  | .hrdErr => true
  | .hwrRmReq _ => true
  | .hrdRmReq => true
  | .hwrRmDone _ => true
  | .hrdRmDone => true
  | .hwrHtim0 _ => true
  | .hrdHtim0 => true
  | .hwrHtim1 _ => true
  | .hrdHtim1 => true
  | .hwrVtim0 _ => true
  | .hrdVtim0 => true
  | .hwrVtim1 _ => true
  | .hrdVtim1 => true
  | .hwrSyncSa _ => true
  | .hrdSyncSa => true
  | .hwrSaTol _ => true
  | .hrdSaTol => true
  | .hwrLine _ => true
  | .hrdLine => true
  | .hwrFrame _ => true
  | .hrdFrame => true
  | .hwrSeq _ => true
  | .hrdSeq => true
  | .hwrCnt _ => true
  | .hrdCnt => true
  | .hwrWdog _ => true
  | .hrdWdog => true
  | .hwrTimer _ => true
  | .hrdTimer => true
  | .hwrBufstat0 _ => true
  | .hrdBufstat0 => true
  | .hwrBuftag0 _ => true
  | .hrdBuftag0 => true
  | .hwrBufline0 _ => true
  | .hrdBufline0 => true
  | .hwrBufstat1 _ => true
  | .hrdBufstat1 => true
  | .hwrBuftag1 _ => true
  | .hrdBuftag1 => true
  | .hwrBufline1 _ => true
  | .hrdBufline1 => true
  | .hwrBufstat2 _ => true
  | .hrdBufstat2 => true
  | .hwrBuftag2 _ => true
  | .hrdBuftag2 => true
  | .hwrBufline2 _ => true
  | .hrdBufline2 => true
  | .hwrBufstat3 _ => true
  | .hrdBufstat3 => true
  | .hwrBuftag3 _ => true
  | .hrdBuftag3 => true
  | .hwrBufline3 _ => true
  | .hrdBufline3 => true
  | .hwrBufstat4 _ => true
  | .hrdBufstat4 => true
  | .hwrBuftag4 _ => true
  | .hrdBuftag4 => true
  | .hwrBufline4 _ => true
  | .hrdBufline4 => true
  | .hwrBufstat5 _ => true
  | .hrdBufstat5 => true
  | .hwrBuftag5 _ => true
  | .hrdBuftag5 => true
  | .hwrBufline5 _ => true
  | .hrdBufline5 => true
  | .hwrBufstat6 _ => true
  | .hrdBufstat6 => true
  | .hwrBuftag6 _ => true
  | .hrdBuftag6 => true
  | .hwrBufline6 _ => true
  | .hrdBufline6 => true
  | .hwrBufstat7 _ => true
  | .hrdBufstat7 => true
  | .hwrBuftag7 _ => true
  | .hrdBuftag7 => true
  | .hwrBufline7 _ => true
  | .hrdBufline7 => true
  | .hwrBuf0 _ _ _ => true
  | .hrdBuf0 _ _ => true
  | .hwrBuf1 _ _ _ => true
  | .hrdBuf1 _ _ => true
  | .hwrBuf2 _ _ _ => true
  | .hrdBuf2 _ _ => true
  | .hwrBuf3 _ _ _ => true
  | .hrdBuf3 _ _ => true
  | .hwrBuf4 _ _ _ => true
  | .hrdBuf4 _ _ => true
  | .hwrBuf5 _ _ _ => true
  | .hrdBuf5 _ _ => true
  | .hwrBuf6 _ _ _ => true
  | .hrdBuf6 _ _ => true
  | .hwrBuf7 _ _ _ => true
  | .hrdBuf7 _ _ => true
  | .nop => true
  | .configure => true
  | .start => true
  | .stop => true
  | .setOutput _ => true
  | .injectLtSuppress => true
  | .reservedCmd code => decide (6 ≤ code.toNat)

end Sys2Proof
end

