-- ==== Sys2Proof/Certificates/Slice0/Obligations.lean ====
section
/-! DEFINITION. The statements for the provers, from the numbered rules of spec/. OBLIGATIONS.json lists them. -/

open Sys2Proof Sys2Proof.Machine

/-- For every well-formed operation i of all 120 constructors, with every operand at every value the encoding admits,
decode (encode i) = i: no operand bit is dropped. (R111, R112, R115, R120, R121) -/
def Obligations.DecodeOfEncode : Prop :=
  ∀ i : Instr, i.wellFormed = true → decode (encode i) = i

/-- For every 64-bit transaction word and every 32-bit command word, the operation the decoder reads is well-formed.
(R110, R112, R115, R121) -/
def Obligations.DecodedIsWellFormed : Prop :=
  ∀ w : OpWord, (decode w).wellFormed = true

/-- Two transaction words that agree in the fields their operation uses decode to the same operation (bits 55:50 are
used by none), and two command words that agree in bits 7:0, and for SET_OUTPUT in bit 8, decode to the same
command. (R111, R122) -/
def Obligations.UnusedTxnBitsAreIgnored : Prop :=
  (∀ w v : BitVec 64, txnOp w = txnOp v →
    (txnSz w = txnSz v → txnAddr w = txnAddr v → txnData w = txnData v → decodeTxn w = decodeTxn v) ∧
    (txnOp w = 0x01#8 ∨ txnOp w = 0x05#8 ∨ txnOp w = 0x06#8 ∨ txnOp w = 0x07#8 → decodeTxn w = decodeTxn v) ∧
    (txnOp w = 0x03#8 → txnSz w = txnSz v → txnAddr w = txnAddr v → decodeTxn w = decodeTxn v) ∧
    (txnOp w = 0x04#8 → txnAddr w = txnAddr v → decodeTxn w = decodeTxn v) ∧
    (txnOp w = 0x08#8 → (txnData w).getLsbD 0 = (txnData v).getLsbD 0 → decodeTxn w = decodeTxn v)) ∧
  (∀ c d : Word, cmdOp c = cmdOp d → (cmdOp c = 0x04#8 → cmdEn c = cmdEn d) → decodeCmd c = decodeCmd d)

/-- The words of 30_encoding.md R132 and 95_test_vectors.md for one operation of each family decode to that operation.
(R132, R112) -/
def Obligations.SpecWordsDecode : Prop :=
  decode (.txn 0x0100000000000000#64) = .tick ∧
  decode (.txn 0x0500000000000000#64) = .ltsvc ∧
  decode (.txn 0x0600000000000000#64) = .sasvc ∧
  decode (.txn 0x0700000000000000#64) = .rst ∧
  decode (.txn 0x0800000000000001#64) = .periph true ∧
  decode (.txn 0x0400000100000000#64) = .drd 1#16 ∧
  decode (.txn 0x0202000800000002#64) = .hwrCmd 2#32 ∧
  decode (.txn 0x02020030000A0100#64) = .hwrSyncSa 0x000A0100#32 ∧
  decode (.txn 0x0302000C00000000#64) = .hrdStatus ∧
  decode (.txn 0x020120060000BEEF#64) = .hwrBuf1 .half 6#12 0xBEEF#32 ∧
  decode (.txn 0x0302131C00000000#64) = .hrdBuf0 .word 0x31C#12 ∧
  decode (.txn 0x0300004000000000#64) = .hrd .byte 0x40#16 ∧
  decode (.cmd 0x00000104#32) = .setOutput true

/-- Every word whose OP is 0x00 or 0x09 to 0xFF decodes to RESERVED_OP with that code, and RESERVED_OP with any code is
refused in every state (it is never given a meaning). (R113) -/
def Obligations.ReservedCodesAreRefused : Prop :=
  (∀ w : BitVec 64, (txnOp w = 0x00#8 ∨ 9 ≤ (txnOp w).toNat) → decode (.txn w) = .reservedOp (txnOp w)) ∧
  ∀ (c : BitVec 8) (s : State), exec (.reservedOp c) s = .refused (.reservedOperation c)

/-- For every data word d and state s, HWR.CMD with d completes with the next state of the command that d[7:0] names:
NOP, CONFIGURE, START, STOP, SET_OUTPUT with EN = d[8], INJECT_LT_SUPPRESS, or the reserved command. (R279) -/
def Obligations.CommandWordPerformsItsCommand : Prop :=
  ∀ (d : Word) (s : State), ∃ t, exec (.hwrCmd d) s = .next t ∧
    (cmdOp d = 0x00#8 → exec .nop s = .next t) ∧
    (cmdOp d = 0x01#8 → exec .configure s = .next t) ∧
    (cmdOp d = 0x02#8 → exec .start s = .next t) ∧
    (cmdOp d = 0x03#8 → exec .stop s = .next t) ∧
    (cmdOp d = 0x04#8 → exec (.setOutput (d.getLsbD 8)) s = .next t) ∧
    (cmdOp d = 0x05#8 → exec .injectLtSuppress s = .next t) ∧
    (6 ≤ (cmdOp d).toNat → exec (.reservedCmd (cmdOp d)) s = .next t)

/-- For every size code, address, data word and state, the operation that the HWR word decodes to (one of 53
constructors) completes with the state that the rule R272, written out once as hostWrite, gives. (R272, R115, R116,
R82, R87) -/
def Obligations.HostWriteFollowsAddressDecode : Prop :=
  ∀ (sz : BitVec 2) (a : Addr) (d : Word) (s : State),
    exec (decode (.txn (txnWord 0x02#8 sz a d))) s = .next (hostWrite sz a d s)

/-- For every size code, address and state, the operation that the HRD word decodes to (one of 53 constructors)
completes with the state that the rule R271, written out once as hostRead, gives. (R271, R115, R116, R82, R87) -/
def Obligations.HostReadFollowsAddressDecode : Prop :=
  ∀ (sz : BitVec 2) (a : Addr) (d : Word) (s : State),
    exec (decode (.txn (txnWord 0x03#8 sz a d))) s = .next (hostRead sz a s)

/-- A step takes the first scheduled word off the schedule, empties the output list, and answers what exec of the
decoded operation answers (log entries 3 and 8); with nothing scheduled it is refused by name (the model's choice,
log entry 4). The decoded operation is always well-formed (DecodedIsWellFormed). (R2, R19, R113) -/
def Obligations.StepRunsScheduledOperation : Prop :=
  (∀ (s : State) (w : OpWord) (rest : List OpWord), s.inputs = w :: rest →
    step s = exec (decode w) { s with inputs := rest, events := [] }) ∧
  ∀ s : State, s.inputs = [] → step s = .refused .noOperation

/-- The reset state has every field of R360 at its reset value (mem unspecified), so ID, PARAM and STATUS read
0x484C5446, 0x03200012 (the default parameters) and 0x00000800, every other register of an existing buffer or single
register reads 0, hsync_o = vsync_o = 1, de_o = rm_irq = 0. (R360) -/
def Obligations.ResetStateAndRegisters : Prop :=
  State.reset.mode = ⟨0, 0, 0, 0, 0, 0, 0, 0, false, false, 0, 0, 0⟩ ∧
  State.reset.ctl = ⟨.uninit, .idle, false, .none, true⟩ ∧
  State.reset.err = ⟨false, false, false, false, false, false⟩ ∧
  State.reset.tmr = ⟨0, 0, 0, false, false, false, 0, false⟩ ∧
  State.reset.ln = ⟨0, 0, 0, .blank, false, 0, 0⟩ ∧
  State.reset.xfer = ⟨.idle, 0, 0⟩ ∧
  (∀ b : Fin 8, State.reset.buf b = ⟨.free, false, 0, 0, 0⟩) ∧
  State.reset.rm = ⟨false, 0, 0, false, 0, 0⟩ ∧
  regValue .id State.reset = 0x484C5446#32 ∧
  regValue .param State.reset = 0x03200012#32 ∧
  regValue .status State.reset = 0x00000800#32 ∧
  (∀ r ∈ HostReg.all, r ≠ .id → r ≠ .param → r ≠ .status → regValue r State.reset = 0) ∧
  hsyncO State.reset = true ∧ vsyncO State.reset = true ∧ deO State.reset = false ∧ rmIrq State.reset = false

/-- In every state RST completes with every field of R360 but mem at its reset value, every error bit cleared, no event
emitted, no Dispatch run; nothing is said of the bytes of mem. That the parameters and the rest of the schedule are
kept, and that the eight slots of the model are all reset, is the model's choice (log entries 1, 3, 15), as is the
list that holds the events (log entry 8). (R361, R360, R30) -/
def Obligations.RstFromAnyState : Prop :=
  ∀ s : State, ∃ t, exec .rst s = .next t ∧
    t.mode = ⟨0, 0, 0, 0, 0, 0, 0, 0, false, false, 0, 0, 0⟩ ∧
    t.ctl = ⟨.uninit, .idle, false, .none, true⟩ ∧
    t.err = ⟨false, false, false, false, false, false⟩ ∧
    t.tmr = ⟨0, 0, 0, false, false, false, 0, false⟩ ∧
    t.ln = ⟨0, 0, 0, .blank, false, 0, 0⟩ ∧
    t.xfer = ⟨.idle, 0, 0⟩ ∧
    (∀ b : Fin 8, t.buf b = ⟨.free, false, 0, 0, 0⟩) ∧
    t.rm = ⟨false, 0, 0, false, 0, 0⟩ ∧
    t.params = s.params ∧ t.events = s.events ∧ t.inputs = s.inputs

/-- For every state whose storage lists rising addresses, every operation that answers a next state leaves a storage
that lists rising addresses. The canonical form is the model's own choice of how to hold the bytes of R61 (log entry
2), which no rule of the spec states. (R61, R84, R85) -/
def Obligations.MemoryStaysCanonical : Prop :=
  ∀ (i : Instr) (s t : State), Memory.wf s.mem = true → exec i s = .next t → Memory.wf t.mem = true

/-- For every state that meets the invariant Inv (all nine items of R65, with the phase of a transfer, the single line
in preparation, the quiet state outside rastering, the RESYNCING mark, the region of the line and the storage form
that they need), if a step answers a next state, that state meets Inv. (R65, R66, R177, R167, R230) -/
def Obligations.StepKeepsInvariant : Prop :=
  ∀ s t : State, Inv s → step s = .next t → Inv t

/-- With any parameters in their ranges, any draw, events and schedule, the reset state meets Inv; in particular
State.reset does. (R65, R360) -/
def Obligations.ResetMeetsInvariant : Prop :=
  (∀ (p : Params) (n : Nat) (evs : List Event) (ins : List OpWord), p.wf = true → Inv (State.resetWith p n evs ins)) ∧
  Inv State.reset

/-- In a state that meets Inv no operation answers a fault: a DMA read always finds its byte. (R65, R246, R59) -/
def Obligations.InvariantStatesNeverFault : Prop :=
  ∀ (i : Instr) (s : State), Inv s → ∀ f : Fault, exec i s ≠ .fault f

/-- If a step answers a next state, its parameters are those of the state before. (R30, R11, R12, R13) -/
def Obligations.ParametersNeverChange : Prop :=
  ∀ s t : State, step s = .next t → t.params = s.params

/-- While drv = RASTERING, no operation but RST changes any mode register. (R44, R276, R31) -/
def Obligations.ModeFixedWhileRastering : Prop :=
  ∀ (i : Instr) (s t : State), s.ctl.drv = .rastering → i ≠ .rst → exec i s = .next t → t.mode = s.mode

/-- If a well-formed operation other than RST changes a byte of buffer b, then b is FILLING before and the operation is
a write into the window of b whose stored bytes hold that byte. (R61, R240, R85) -/
def Obligations.BytesChangeOnlyInFillingBuffer : Prop :=
  ∀ (i : Instr) (s t : State), i.wellFormed = true → i ≠ .rst → exec i s = .next t →
    ∀ (b : Fin 8) (p : Nat), p < 0x1000 → readByte t b p ≠ readByte s b p →
      (s.buf b).own = .filling ∧
      ∃ (n : Size) (o : BitVec 12) (d : Word), i = Instr.ofWindowWrite n o d b ∧
        o.toNat ≤ p ∧ p < o.toNat + n.bytes

/-- In a state that meets Inv with a buffer streaming, no operation but RST changes a byte of that buffer, and every DRD
below its valid range completes and returns the stored byte. (R247, R66, R96) -/
def Obligations.StreamedBufferIsStable : Prop :=
  ∀ s : State, Inv s → s.xfer.xst = .streaming →
    (∀ (i : Instr) (t : State), i ≠ .rst → exec i s = .next t →
      ∀ p < 0x1000, readByte t s.xfer.xbuf p = readByte s s.xfer.xbuf p) ∧
    ∀ o : Addr, o.toNat < s.xfer.xlen.toNat → ∃ t, exec (.drd o) s = .next t ∧
      t.events = s.events ++ [.dmaData (readByte s s.xfer.xbuf o.toNat)]

/-- If an operation answers a next state, at most one sticky error bit that was clear before is set after. (R324, R336) -/
def Obligations.AtMostOneErrorPerOperation : Prop :=
  ∀ (i : Instr) (s t : State), exec i s = .next t → ∀ e f : ErrBit,
    errBit s e = false → errBit t e = true → errBit s f = false → errBit t f = true → e = f

/-- If a well-formed operation clears a sticky error bit that was set, it is RST, or a write to ERR whose data word has
a 1 at that bit's position. (R321, R274, R361) -/
def Obligations.ErrorBitsStickUntilCleared : Prop :=
  ∀ (i : Instr) (s t : State), i.wellFormed = true → exec i s = .next t → ∀ e : ErrBit,
    errBit s e = true → errBit t e = false →
      i = .rst ∨ ∃ d : Word, i = .hwrErr d ∧
        (match e with
        | .badState => d.getLsbD 8
        | .badCmd => d.getLsbD 9
        | .ownViol => d.getLsbD 10
        | .bounds => d.getLsbD 11
        | .clamped => d.getLsbD 12
        | .badAccess => d.getLsbD 13) = true

/-- If TICK, LTSVC, SASVC, a DRD or a PERIPH answers a next state, ERR's sticky bits, cfg_err and the mode registers are
as before. (R336, R150, R246, R299) -/
def Obligations.HandlersAndTimersRaiseNothing : Prop :=
  ∀ (i : Instr) (s t : State),
    (i = .tick ∨ i = .ltsvc ∨ i = .sasvc ∨ (∃ o, i = .drd o) ∨ ∃ v, i = .periph v) → exec i s = .next t →
    t.err = s.err ∧ t.ctl.cfgErr = s.ctl.cfgErr ∧ t.mode = s.mode

/-- In a state that meets Inv, if a well-formed operation other than RST answers a next state: a buffer becomes XFER
only from READY, by an LTSVC that finds the new line visible, the tag equal to the new seq, lt_cnt < BP_END and
out_en = 1; READY only from FILLING without discard, by RM_DONE; a FILLING buffer stops being FILLING only by
RM_DONE, and is then READY, or FREE if it was discarded; a READY buffer stops being READY only by LTSVC, STOP while
rastering, or START (or the write to CMD that carries one of these two); an XFER buffer stops being XFER only by the
TICK that reaches ACT_END while it streams, or by STOP (or the write to CMD that carries it), and is then FREE, or
FILLING for the request that Dispatch gives it; and a buffer becomes FILLING only as the buffer of the fill now in
service, with discard clear and the operation emitting RmReq for it. (R230, R169, R168, R232, R236, R238, R158,
R285, R287) -/
def Obligations.OwnershipMovesByRule : Prop :=
  ∀ (i : Instr) (s t : State), Inv s → i.wellFormed = true → i ≠ .rst → exec i s = .next t → ∀ b : Fin 8,
    ((t.buf b).own = .xfer → (s.buf b).own ≠ .xfer → (s.buf b).own = .ready ∧ i = .ltsvc ∧
      t.ln.region = .visible ∧ (s.buf b).tag = t.ln.seq ∧ s.tmr.ltCnt.toNat < s.mode.bpEnd.toNat ∧ s.ctl.outEn = true) ∧
    ((t.buf b).own = .ready → (s.buf b).own ≠ .ready →
      (s.buf b).own = .filling ∧ (s.buf b).discard = false ∧ ∃ vr, i = .hwrRmDone vr) ∧
    ((s.buf b).own = .filling → (t.buf b).own ≠ .filling →
      (∃ vr, i = .hwrRmDone vr) ∧ (t.buf b).own = (if (s.buf b).discard then .free else .ready)) ∧
    ((s.buf b).own = .ready → (t.buf b).own ≠ .ready →
      i = .ltsvc ∨ i = .start ∨ (i = .stop ∧ s.ctl.drv = .rastering) ∨
      ∃ d, i = .hwrCmd d ∧ (cmdOp d = 0x02#8 ∨ (cmdOp d = 0x03#8 ∧ s.ctl.drv = .rastering))) ∧
    ((s.buf b).own = .xfer → (t.buf b).own ≠ .xfer →
      ((t.buf b).own = .free ∨ (t.buf b).own = .filling) ∧ s.ctl.drv = .rastering ∧
      ((i = .tick ∧ s.xfer.xst = .streaming ∧ s.xfer.xbuf = b ∧ t.tmr.ltCnt = s.mode.actEnd) ∨ i = .stop ∨
        ∃ d, i = .hwrCmd d ∧ cmdOp d = 0x03#8)) ∧
    ((t.buf b).own = .filling → (s.buf b).own ≠ .filling →
      t.rm.busy = true ∧ t.rm.buf = b ∧ (t.buf b).discard = false ∧ .rmReq b t.rm.line ∈ t.events.drop s.events.length)

/-- If a well-formed operation other than RST answers a next state in which out_en, periph or cfg_err differs, it is
SET_OUTPUT, PERIPH or CONFIGURE respectively, or the write to CMD that carries that command. (R47, R48, R49, R31) -/
def Obligations.ControlFieldsHaveOneWriter : Prop :=
  ∀ (i : Instr) (s t : State), i.wellFormed = true → i ≠ .rst → exec i s = .next t →
    (t.ctl.outEn ≠ s.ctl.outEn →
      i = .setOutput t.ctl.outEn ∨ ∃ d, i = .hwrCmd d ∧ cmdOp d = 0x04#8 ∧ d.getLsbD 8 = t.ctl.outEn) ∧
    (t.ctl.periph ≠ s.ctl.periph → i = .periph t.ctl.periph) ∧
    (t.ctl.cfgErr ≠ s.ctl.cfgErr → i = .configure ∨ ∃ d, i = .hwrCmd d ∧ cmdOp d = 0x01#8)

/-- hsync_o, vsync_o, de_o and rm_irq are the functions of the state that R63 gives. (R63) -/
def Obligations.LevelOutputsFollowState : Prop :=
  ∀ s : State,
    (s.ctl.drv = .rastering → s.tmr.ltCnt.toNat < s.mode.hsEnd.toNat → hsyncO s = s.mode.hsPol) ∧
    (¬(s.ctl.drv = .rastering ∧ s.tmr.ltCnt.toNat < s.mode.hsEnd.toNat) → hsyncO s = !s.mode.hsPol) ∧
    (s.ctl.drv = .rastering → s.ln.region = .vsync → vsyncO s = s.mode.vsPol) ∧
    (¬(s.ctl.drv = .rastering ∧ s.ln.region = .vsync) → vsyncO s = !s.mode.vsPol) ∧
    (deO s = true ↔ s.xfer.xst = .streaming) ∧ rmIrq s = s.rm.busy

/-- Where drv is not RASTERING, TICK completes; its only action is Dispatch, and every timer, counter, pending bit, line
field and mode register is as before. (R151) -/
def Obligations.TickOutsideRasteringOnlyDispatches : Prop :=
  ∀ s : State, s.ctl.drv ≠ .rastering →
    exec .tick s = .next (dispatchFill s) ∧
    ∃ t, exec .tick s = .next t ∧ t.tmr = s.tmr ∧ t.ln = s.ln ∧ t.mode = s.mode ∧ t.ctl = s.ctl ∧ t.err = s.err ∧
      t.xfer = s.xfer ∧ t.mem = s.mem

/-- While rastering TICK completes: lt_cnt counts and wraps at T_LINE, wd_cnt counts with saturation, a wrap advances
the divider and makes the firing pending, lost or suppressed, sa_pend is set at SA_PHASE in lines with sa_div_cnt =
0; resync_req, the line state, the mode, the control state, the error bits and every buffer byte are as before.
(R150, R152, R153, R154, R155, R156) -/
def Obligations.TickAdvancesTimers : Prop :=
  ∀ s : State, s.ctl.drv = .rastering → ∃ t, exec .tick s = .next t ∧
    (s.tmr.ltCnt.toNat + 1 = s.mode.tLine.toNat → t.tmr.ltCnt = 0) ∧
    (s.tmr.ltCnt.toNat + 1 ≠ s.mode.tLine.toNat → t.tmr.ltCnt = s.tmr.ltCnt + 1 ∧ t.tmr.saDivCnt = s.tmr.saDivCnt ∧
      t.tmr.ltPend = s.tmr.ltPend ∧ t.tmr.ltSupp = s.tmr.ltSupp ∧ t.tmr.ltLost = s.tmr.ltLost) ∧
    t.tmr.wdCnt.toNat = min (s.tmr.wdCnt.toNat + 1) 0xFFFF ∧
    (s.tmr.ltCnt.toNat + 1 = s.mode.tLine.toNat →
      (s.tmr.saDivCnt.toNat + 1 = s.mode.saDiv.toNat → t.tmr.saDivCnt = 0) ∧
      (s.tmr.saDivCnt.toNat + 1 ≠ s.mode.saDiv.toNat → t.tmr.saDivCnt = s.tmr.saDivCnt + 1) ∧
      (s.tmr.ltSupp = true → t.tmr.ltSupp = false ∧ t.tmr.ltPend = s.tmr.ltPend ∧
        t.tmr.ltLost.toNat = min (s.tmr.ltLost.toNat + 1) 0xFF) ∧
      (s.tmr.ltSupp = false → s.tmr.ltPend = true → t.tmr.ltSupp = false ∧ t.tmr.ltPend = true ∧
        t.tmr.ltLost.toNat = min (s.tmr.ltLost.toNat + 1) 0xFF) ∧
      (s.tmr.ltSupp = false → s.tmr.ltPend = false → t.tmr.ltSupp = false ∧ t.tmr.ltPend = true ∧
        t.tmr.ltLost = s.tmr.ltLost)) ∧
    (t.tmr.saPend = true ↔ s.tmr.saPend = true ∨ (t.tmr.ltCnt = s.mode.saPhase ∧ t.tmr.saDivCnt = 0)) ∧
    t.tmr.resyncReq = s.tmr.resyncReq ∧
    t.ln = s.ln ∧ t.mode = s.mode ∧ t.ctl = s.ctl ∧ t.err = s.err ∧
    ∀ (b : Fin 8) (o : Nat), readByte t b o = readByte s b o

/-- While rastering with BP_END and ACT_END distinct, TICK completes with Dispatch of a state u, which is the next state
itself unless a request waits and no fill is in service. In u, at BP_END an armed buffer has started streaming with
DmaStart; at ACT_END a streaming transfer has ended with DmaStop and its buffer is FREE; at any other tick the
transfer state, the buffers and the output list are as before. The handshake, the line state, the mode, the control
state, the error bits and the bytes of u are as before, and lt_cnt has counted. (R150, R157, R158, R159, R152, R232) -/
def Obligations.TickRunsActiveVideo : Prop :=
  ∀ s : State, s.ctl.drv = .rastering → s.mode.bpEnd ≠ s.mode.actEnd →
    ∃ u, exec .tick s = .next (dispatchFill u) ∧ (s.rm.pend = false ∨ s.rm.busy = true → dispatchFill u = u) ∧
    u.rm = s.rm ∧ u.ln = s.ln ∧ u.mode = s.mode ∧ u.ctl = s.ctl ∧ u.err = s.err ∧ u.mem = s.mem ∧
    u.params = s.params ∧ u.draws = s.draws ∧ u.inputs = s.inputs ∧
    u.tmr.ltCnt = (if s.tmr.ltCnt.toNat + 1 = s.mode.tLine.toNat then 0 else s.tmr.ltCnt + 1) ∧
    (u.tmr.ltCnt = s.mode.bpEnd → s.xfer.xst = .armed →
      u.xfer = { s.xfer with xst := .streaming } ∧ u.events = s.events ++ [.dmaStart s.xfer.xbuf s.xfer.xlen] ∧
      u.bufs = s.bufs) ∧
    (u.tmr.ltCnt = s.mode.actEnd → s.xfer.xst = .streaming →
      u.xfer = { s.xfer with xst := .idle } ∧ u.events = s.events ++ [.dmaStop s.xfer.xbuf] ∧
      (u.buf s.xfer.xbuf) = { s.buf s.xfer.xbuf with own := .free } ∧
      ∀ b : Fin 8, b ≠ s.xfer.xbuf → u.buf b = s.buf b) ∧
    (¬(u.tmr.ltCnt = s.mode.bpEnd ∧ s.xfer.xst = .armed) → ¬(u.tmr.ltCnt = s.mode.actEnd ∧ s.xfer.xst = .streaming) →
      u.xfer = s.xfer ∧ u.events = s.events ∧ u.bufs = s.bufs)

/-- LTSVC completes when drv = RASTERING and lt_pend = 1 and is refused by name otherwise; SASVC completes when drv =
RASTERING, sa_pend = 1 and lt_pend = 0 and is refused by name otherwise (the refusal is the model's reading of "a
model never takes it otherwise", log entry 5). (R212, R112, R160, R200) -/
def Obligations.ServicesNeedTheGrant : Prop :=
  ∀ s : State,
    (s.ctl.drv = .rastering ∧ s.tmr.ltPend = true → ∃ t, exec .ltsvc s = .next t) ∧
    (¬(s.ctl.drv = .rastering ∧ s.tmr.ltPend = true) → exec .ltsvc s = .refused .lineServiceNotGranted) ∧
    (s.ctl.drv = .rastering ∧ s.tmr.saPend = true ∧ s.tmr.ltPend = false → ∃ t, exec .sasvc s = .next t) ∧
    (¬(s.ctl.drv = .rastering ∧ s.tmr.saPend = true ∧ s.tmr.ltPend = false) →
      exec .sasvc s = .refused .shockServiceNotGranted)

/-- For a granted LTSVC with line < L_TOTAL, with k = 1, or 1 + lt_lost when a resynchronization is requested: seq grows
by k, line becomes (line + k) mod L_TOTAL, frame grows by the number of wraps (line + k) / L_TOTAL, and FrameIrq
with the final frame is emitted once if there was a wrap and not otherwise. (R160, R161, R162, R165) -/
def Obligations.LineServiceAdvancesLines : Prop :=
  ∀ s : State, s.ctl.drv = .rastering → s.tmr.ltPend = true → s.ln.line.toNat < s.mode.lTotal.toNat →
    ∃ t, exec .ltsvc s = .next t ∧
      ∀ k : Nat, k = 1 + (if s.tmr.resyncReq then s.tmr.ltLost.toNat else 0) →
        t.ln.seq = s.ln.seq + BitVec.ofNat 32 k ∧
        t.ln.line.toNat = (s.ln.line.toNat + k) % s.mode.lTotal.toNat ∧
        t.ln.frame = s.ln.frame + BitVec.ofNat 32 ((s.ln.line.toNat + k) / s.mode.lTotal.toNat) ∧
        t.events.filterMap frameOf = s.events.filterMap frameOf ++
          (if s.mode.lTotal.toNat ≤ s.ln.line.toNat + k then [t.ln.frame] else [])

/-- For a granted LTSVC with line < L_TOTAL and L_VIS < L_TOTAL: the new line is missed when it is visible and has no
READY buffer of its seq, or is serviced at or after BP_END; miss is set when the line is missed, a visible line was
skipped, or a resynchronization was applied, else clear; miss_cnt grows by the skipped visible lines and the missed
line, with saturation; resync_cnt is as before. (R160, R170, R171, R173) -/
def Obligations.LineServiceAccountsMisses : Prop :=
  ∀ s : State, s.ctl.drv = .rastering → s.tmr.ltPend = true → s.ln.line.toNat < s.mode.lTotal.toNat →
    s.mode.lVis.toNat < s.mode.lTotal.toNat →
    ∃ t, exec .ltsvc s = .next t ∧ t.ln.resyncCnt = s.ln.resyncCnt ∧
      ∀ skipped missed : Nat,
        skipped = ((List.range (if s.tmr.resyncReq then s.tmr.ltLost.toNat else 0)).filter fun j =>
          s.mode.lTotal.toNat - s.mode.lVis.toNat ≤ (s.ln.line.toNat + 1 + j) % s.mode.lTotal.toNat).length →
        (missed = 1 ↔ (t.ln.region = .visible ∧
          ((∀ b : Fin 8, s.hasBuf b = true → ¬((s.buf b).own = .ready ∧ (s.buf b).tag = t.ln.seq)) ∨
            s.mode.bpEnd.toNat ≤ s.tmr.ltCnt.toNat))) →
        missed ≤ 1 →
        (t.ln.miss = true ↔ missed = 1 ∨ 0 < skipped ∨ s.tmr.resyncReq = true) ∧
        t.ln.missCnt.toNat = min (s.ln.missCnt.toNat + skipped + missed) 0xFFFF

/-- For a granted LTSVC with L_VIS < L_TOTAL: region is that of the new line and vsync_o follows it; hsm is
ACTIVE_VISIBLE or ACTIVE_BLANK by the region; wd_cnt = 0, lt_pend = 0, resync_req = 0, and lt_lost = 0 if a
resynchronization was applied; lt_cnt, sa_div_cnt, sa_pend, lt_supp, the mode, drv, out_en, cfg_err, periph, the
error bits and every buffer byte are as before. (R160, R166, R174, R175, R176) -/
def Obligations.LineServiceSettles : Prop :=
  ∀ s : State, s.ctl.drv = .rastering → s.tmr.ltPend = true → s.mode.lVis.toNat < s.mode.lTotal.toNat →
    ∃ t, exec .ltsvc s = .next t ∧
      (t.ln.region = .visible ↔ s.mode.lTotal.toNat - s.mode.lVis.toNat ≤ t.ln.line.toNat) ∧
      (t.ln.region = .vsync ↔ t.ln.line.toNat < s.mode.lTotal.toNat - s.mode.lVis.toNat ∧
        s.mode.vsStart.toNat ≤ t.ln.line.toNat ∧ t.ln.line.toNat < s.mode.vsEnd.toNat) ∧
      (vsyncO t = s.mode.vsPol ↔ t.ln.region = .vsync) ∧
      (t.ln.region = .visible → t.ctl.hsm = .activeVisible) ∧ (t.ln.region ≠ .visible → t.ctl.hsm = .activeBlank) ∧
      t.tmr = { s.tmr with
        ltPend := false, wdCnt := 0, resyncReq := false, ltLost := if s.tmr.resyncReq then 0 else s.tmr.ltLost } ∧
      t.ctl.drv = s.ctl.drv ∧ t.ctl.outEn = s.ctl.outEn ∧ t.ctl.cfgErr = s.ctl.cfgErr ∧ t.ctl.periph = s.ctl.periph ∧
      t.mode = s.mode ∧ t.err = s.err ∧ ∀ (b : Fin 8) (o : Nat), readByte t b o = readByte s b o

/-- For a granted LTSVC in a state that meets Inv: if the new line is visible, some buffer is READY with the new seq,
lt_cnt < BP_END and out_en = 1, that buffer becomes XFER, the transfer is ARMED with it and its valid range, and
DmaArm is emitted; if any of these fails, the transfer state is as before, no buffer is XFER, and no DmaArm is
emitted. (R160, R169, R170, R171) -/
def Obligations.LineServiceArmsOrLeavesBlank : Prop :=
  ∀ s : State, Inv s → s.ctl.drv = .rastering → s.tmr.ltPend = true →
    ∃ t, exec .ltsvc s = .next t ∧
      (∀ b : Fin 8, (s.buf b).own = .ready → (s.buf b).tag = t.ln.seq → t.ln.region = .visible →
        s.tmr.ltCnt.toNat < s.mode.bpEnd.toNat → s.ctl.outEn = true →
        (t.buf b).own = .xfer ∧ t.xfer = ⟨.armed, b, (s.buf b).vrange⟩ ∧
        .dmaArm b (s.buf b).vrange ∈ t.events.drop s.events.length) ∧
      ((¬ ∃ b : Fin 8, (s.buf b).own = .ready ∧ (s.buf b).tag = t.ln.seq ∧ t.ln.region = .visible ∧
          s.tmr.ltCnt.toNat < s.mode.bpEnd.toNat ∧ s.ctl.outEn = true) →
        t.xfer = s.xfer ∧ (∀ c : Fin 8, (t.buf c).own ≠ .xfer) ∧
        ∀ (b : Fin 8) (n : Count), .dmaArm b n ∉ t.events.drop s.events.length)

/-- For a granted LTSVC in a state that meets Inv: a FILLING buffer stays FILLING and is marked discard; a READY buffer
of another line is FREE, or FILLING for the next request if Dispatch took it; no buffer is READY after the service;
the ranges of all buffers, and every field but own of a buffer that is not FILLING after, are as before. (R168,
R160, R230) -/
def Obligations.LineServiceWithdrawsStaleWork : Prop :=
  ∀ s : State, Inv s → s.ctl.drv = .rastering → s.tmr.ltPend = true →
    ∃ t, exec .ltsvc s = .next t ∧ ∀ b : Fin 8,
      ((s.buf b).own = .filling → t.buf b = { s.buf b with discard := true }) ∧
      ((s.buf b).own = .ready → (s.buf b).tag ≠ t.ln.seq →
        t.buf b = { s.buf b with own := .free } ∨
        ((t.buf b).own = .filling ∧ (t.buf b).tag = t.ln.seq + 1 ∧ t.rm.busy = true ∧ t.rm.buf = b)) ∧
      (t.buf b).own ≠ .ready ∧ (t.buf b).vrange = (s.buf b).vrange ∧
      ((t.buf b).own ≠ .filling → t.buf b = { s.buf b with own := (t.buf b).own })

/-- For a granted LTSVC in a state that meets Inv: where the next line is visible, a request for seq + 1 with its
visible index either waits (the raster-maintenance context is busy or no buffer is FREE) or has been handed to a
buffer with RmReq as the last event; where the next line is blank, no request waits and the handshake is otherwise
as before. (R172, R160, R168, R232) -/
def Obligations.LineServiceRequestsNextLine : Prop :=
  ∀ s : State, Inv s → s.ctl.drv = .rastering → s.tmr.ltPend = true →
    ∃ t, exec .ltsvc s = .next t ∧
      ∀ nxt : Nat, nxt = (t.ln.line.toNat + 1) % s.mode.lTotal.toNat →
        (s.mode.lTotal.toNat - s.mode.lVis.toNat ≤ nxt →
          t.rm.pendSeq = t.ln.seq + 1 ∧
          t.rm.pendLine = BitVec.ofNat 16 (nxt - (s.mode.lTotal.toNat - s.mode.lVis.toNat)) ∧
          ((t.rm.pend = true ∧ t.rm.busy = s.rm.busy ∧ t.rm.buf = s.rm.buf ∧ t.rm.line = s.rm.line ∧
              (s.rm.busy = true ∨ ∀ b : Fin 8, s.hasBuf b = true → (t.buf b).own ≠ .free)) ∨
            (t.rm.pend = false ∧ s.rm.busy = false ∧ t.rm.busy = true ∧ t.rm.line = t.rm.pendLine ∧
              (t.buf t.rm.buf).own = .filling ∧ (t.buf t.rm.buf).discard = false ∧
              (t.buf t.rm.buf).tag = t.rm.pendSeq ∧ (t.buf t.rm.buf).tline = t.rm.pendLine ∧
              t.events.getLast? = some (.rmReq t.rm.buf t.rm.pendLine)))) ∧
        (nxt < s.mode.lTotal.toNat - s.mode.lVis.toNat → t.rm = { s.rm with pend := false })

/-- A granted SASVC completes: sa_pend clears; if a firing was lost, or wd_cnt > lt_cnt, or lt_cnt - wd_cnt > SA_TOL,
then resync_req and miss are set, hsm is RESYNCING and resync_cnt grows with saturation; nothing else changes but
what Dispatch does. (R200) -/
def Obligations.ShockServiceDetectsDivergence : Prop :=
  ∀ s : State, s.ctl.drv = .rastering → s.tmr.saPend = true → s.tmr.ltPend = false →
    ((s.tmr.ltLost ≠ 0 ∨ s.tmr.ltCnt.toNat < s.tmr.wdCnt.toNat ∨
        s.tmr.wdCnt.toNat + s.mode.saTol.toNat < s.tmr.ltCnt.toNat) →
      exec .sasvc s = .next (dispatchFill { s with
        tmr := { s.tmr with saPend := false, resyncReq := true }
        ctl := { s.ctl with hsm := .resyncing }
        ln := { s.ln with
          miss := true, resyncCnt := BitVec.ofNat 16 (min (s.ln.resyncCnt.toNat + 1) 0xFFFF) } })) ∧
    (¬(s.tmr.ltLost ≠ 0 ∨ s.tmr.ltCnt.toNat < s.tmr.wdCnt.toNat ∨
        s.tmr.wdCnt.toNat + s.mode.saTol.toNat < s.tmr.ltCnt.toNat) →
      exec .sasvc s = .next (dispatchFill { s with tmr := { s.tmr with saPend := false } }))

/-- With a request waiting, no fill in service and b the least FREE buffer, Dispatch makes b FILLING for the request,
records it in the handshake and emits RmReq, and changes nothing else; with no request waiting, a fill in service,
or no FREE buffer it changes nothing; a second Dispatch changes nothing. (R232, R234, R272) -/
def Obligations.DispatchServesWaitingRequest : Prop :=
  ∀ s : State,
    (∀ b : Fin 8, s.rm.pend = true → s.rm.busy = false → b.val < s.params.nbuf → (s.buf b).own = .free →
      (∀ c : Fin 8, c < b → (s.buf c).own ≠ .free) →
      dispatchFill s = { s with
        bufs := s.bufs.set b ⟨.filling, false, s.rm.pendSeq, s.rm.pendLine, (s.buf b).vrange⟩
        rm := ⟨true, b, s.rm.pendLine, false, s.rm.pendSeq, s.rm.pendLine⟩
        events := s.events ++ [.rmReq b s.rm.pendLine] }) ∧
    (s.rm.pend = false ∨ s.rm.busy = true ∨ (∀ b : Fin 8, b.val < s.params.nbuf → (s.buf b).own ≠ .free) →
      dispatchFill s = s) ∧
    dispatchFill (dispatchFill s) = dispatchFill s

/-- In a state that meets Inv, every host-bus read (of a register, of a window, of the reserved size, of any other
target) and every DRD completes and leaves every field but the error bits and the output list as before; a DRD
changes no error bit. (R90, R233, R271, R246) -/
def Obligations.ReadsHaveNoSideEffects : Prop :=
  ∀ s : State, Inv s →
    (∀ i : Instr, ((∃ r, i = Instr.ofRead r) ∨ (∃ n o b, i = Instr.ofWindowRead n o b) ∨ i = .hrdSz3 ∨ ∃ n a, i = .hrd n a) →
      ∃ t, exec i s = .next t ∧ t = { s with err := t.err, events := t.events }) ∧
    ∀ o : Addr, ∃ t, exec (.drd o) s = .next t ∧ t = { s with events := t.events }

/-- RM_DONE(vr) completes. With a fill in service, rm_busy clears; e_clamped is set when vr > BUF_BYTES; the buffer of
the request becomes FREE with discard clear if it was discarded, else READY with vrange = min(vr, BUF_BYTES); then
Dispatch. With none, e_own_viol is set, then Dispatch. Nothing else changes. (R236) -/
def Obligations.RmDoneEndsFill : Prop :=
  ∀ (vr : Word) (s : State),
    (s.rm.busy = true →
      exec (.hwrRmDone vr) s = .next (dispatchFill { s with
        err := { s.err with clamped := s.err.clamped || decide (s.params.bufBytes < vr.toNat) }
        bufs := s.bufs.set s.rm.buf
          (if (s.buf s.rm.buf).discard then { s.buf s.rm.buf with own := .free, discard := false }
          else { s.buf s.rm.buf with own := .ready, vrange := BitVec.ofNat 16 (min vr.toNat s.params.bufBytes) })
        rm := { s.rm with busy := false } })) ∧
    (s.rm.busy = false →
      exec (.hwrRmDone vr) s = .next (dispatchFill { s with err := { s.err with ownViol := true } }))

/-- In a state where a request waits only for cause (R65 item 7), RM_DONE with rm_busy = 0 completes with e_own_viol set
and every other field, each buffer among them, as before. (R239) -/
def Obligations.RmDoneWithoutFillChangesNoBuffer : Prop :=
  ∀ (vr : Word) (s : State), WaitingForCause s → s.rm.busy = false →
    exec (.hwrRmDone vr) s = .next { s with err := { s.err with ownViol := true } }

/-- For each of the eight windows, every size, offset, data word and state, the write completes: e_bad_access where the
buffer does not exist, e_bounds where it is misaligned or passes BUF_BYTES, e_own_viol where the buffer is not
FILLING, and BufWrite where all checks pass; then Dispatch; nothing else changes. (R240, R272, R87, R88, R89) -/
def Obligations.WindowWriteChecksInOrder : Prop :=
  ∀ (b : Fin 8) (n : Size) (o : BitVec 12) (d : Word) (s : State),
    exec (Instr.ofWindowWrite n o d b) s = .next (dispatchFill
      (if ¬ b.val < s.params.nbuf then { s with err := { s.err with badAccess := true } }
      else if o.toNat % n.bytes ≠ 0 then { s with err := { s.err with bounds := true } }
      else if s.params.bufBytes < o.toNat + n.bytes then { s with err := { s.err with bounds := true } }
      else if (s.buf b).own ≠ .filling then { s with err := { s.err with ownViol := true } }
      else bufWrite b o.toNat n.bytes d s))

/-- Where the buffer exists and is FILLING and the access is aligned and inside BUF_BYTES, the write completes; byte o +
i of the buffer is d[8i+7:8i] for each i below the size; every byte of every buffer outside the stored bytes is as
before; and nothing but the bytes and what Dispatch does changes. (R84, R85, R240) -/
def Obligations.WindowWriteStoresLittleEndian : Prop :=
  ∀ (b : Fin 8) (n : Size) (o : BitVec 12) (d : Word) (s : State), b.val < s.params.nbuf →
    o.toNat % n.bytes = 0 → o.toNat + n.bytes ≤ s.params.bufBytes → (s.buf b).own = .filling →
    ∃ t, exec (Instr.ofWindowWrite n o d b) s = .next t ∧
      (∀ i < n.bytes, readByte t b (o.toNat + i) = d.extractLsb' (8 * i) 8) ∧
      (∀ (c : Fin 8) (p : Nat), p < 0x1000 → ¬(c = b ∧ o.toNat ≤ p ∧ p < o.toNat + n.bytes) →
        readByte t c p = readByte s c p) ∧
      t = dispatchFill { s with mem := t.mem }

/-- For each window, size, offset and state the read completes: 0 is returned with e_bad_access, e_bounds or e_own_viol
for the first check that fails, in the order of R240; where all pass, the bytes are returned little-endian, zero-
extended; then Dispatch; nothing else changes. (R243, R84, R271, R87, R88, R89) -/
def Obligations.WindowReadReturnsBytes : Prop :=
  ∀ (b : Fin 8) (n : Size) (o : BitVec 12) (s : State),
    exec (Instr.ofWindowRead n o b) s = .next (dispatchFill
      (if ¬ b.val < s.params.nbuf then
        { s with err := { s.err with badAccess := true }, events := s.events ++ [.hostData 0] }
      else if o.toNat % n.bytes ≠ 0 then
        { s with err := { s.err with bounds := true }, events := s.events ++ [.hostData 0] }
      else if s.params.bufBytes < o.toNat + n.bytes then
        { s with err := { s.err with bounds := true }, events := s.events ++ [.hostData 0] }
      else if (s.buf b).own ≠ .filling then
        { s with err := { s.err with ownViol := true }, events := s.events ++ [.hostData 0] }
      else { s with events := s.events ++ [.hostData
        (match n with
        | .byte => (readByte s b o.toNat).setWidth 32
        | .half => (readByte s b (o.toNat + 1) ++ readByte s b o.toNat).setWidth 32
        | .word => readByte s b (o.toNat + 3) ++ readByte s b (o.toNat + 2) ++ readByte s b (o.toNat + 1)
            ++ readByte s b o.toNat)] }))

/-- DRD completes whenever the buffer it would read exists (R65 items 3 and 6 give that in every reachable state): the
byte of the streaming buffer where o < xlen, BLANK in every other case, then Dispatch. Where the state names a byte
that does not exist it faults by name (the model's choice, log entry 13). (R246, R83) -/
def Obligations.DmaReadReturnsStreamedByte : Prop :=
  ∀ (o : Addr) (s : State),
    (¬(s.xfer.xst = .streaming ∧ o.toNat < s.xfer.xlen.toNat) →
      exec (.drd o) s = .next (dispatchFill { s with events := s.events ++ [.dmaData s.params.blank] })) ∧
    (s.xfer.xst = .streaming → o.toNat < s.xfer.xlen.toNat →
      s.xfer.xbuf.val < s.params.nbuf → o.toNat < s.params.bufBytes →
      exec (.drd o) s = .next (dispatchFill
        { s with events := s.events ++ [.dmaData (readByte s s.xfer.xbuf o.toNat)] })) ∧
    (s.xfer.xst = .streaming → o.toNat < s.xfer.xlen.toNat →
      ¬(s.xfer.xbuf.val < s.params.nbuf ∧ o.toNat < s.params.bufBytes) →
      exec (.drd o) s = .fault .dmaByteMissing)

/-- For every register of the map, each of the 43 HRD operations completes: where the register is mapped (a per-buffer
register only for b < NBUF) its value, built from the state at the start of the step, is returned; else 0 with
e_bad_access; then Dispatch; nothing else changes. (R270, R271, R87) -/
def Obligations.RegisterReadsReturnTheirValue : Prop :=
  ∀ (r : HostReg) (s : State),
    ((∀ b : Fin 8, r = .bufstat b ∨ r = .buftag b ∨ r = .bufline b → b.val < s.params.nbuf) →
      exec (Instr.ofRead r) s =
        .next (dispatchFill { s with events := s.events ++ [.hostData (regValue r s)] })) ∧
    (∀ b : Fin 8, r = .bufstat b ∨ r = .buftag b ∨ r = .bufline b → ¬ b.val < s.params.nbuf →
      exec (Instr.ofRead r) s = .next (dispatchFill
        { s with err := { s.err with badAccess := true }, events := s.events ++ [.hostData 0] }))

/-- The enumerated fields drv, hsm, cfg_err, region, xst and own have the code numbers that R45, R46, R48, R57, R59 and
R60 give. In every state ID reads 0x484C5446, and each field of STATUS, ERR, RM_REQ, PARAM (parameters in range),
the mode registers, CNT, WDOG, TIMER and BUFSTAT stands at the bits the register map gives it, and the bits the map
does not list read 0. (R67, R270, R30, R3, R45, R46, R48, R57, R59, R60) -/
def Obligations.RegisterFieldsAreWhereTheMapSays : Prop :=
  (drvCode .uninit = 0#2 ∧ drvCode .configured = 1#2 ∧ drvCode .rastering = 2#2 ∧ drvCode .stopped = 3#2) ∧
  (hsmCode .idle = 0#3 ∧ hsmCode .armed = 1#3 ∧ hsmCode .activeVisible = 2#3 ∧ hsmCode .activeBlank = 3#3 ∧
    hsmCode .resyncing = 4#3) ∧
  (cfgErrCode .none = 0#4 ∧ cfgErrCode .invalidMode = 1#4 ∧ cfgErrCode .periphUnavailable = 2#4) ∧
  (regionCode .blank = 0#2 ∧ regionCode .vsync = 1#2 ∧ regionCode .visible = 2#2) ∧
  (xstCode .idle = 0#2 ∧ xstCode .armed = 1#2 ∧ xstCode .streaming = 2#2) ∧
  (ownCode .free = 0#2 ∧ ownCode .filling = 1#2 ∧ ownCode .ready = 2#2 ∧ ownCode .xfer = 3#2) ∧
  ∀ s : State, regValue .id s = 0x484C5446#32 ∧
    ((regValue .status s).extractLsb' 0 2 = drvCode s.ctl.drv ∧ (regValue .status s).extractLsb' 2 3 = hsmCode s.ctl.hsm ∧
      (regValue .status s).getLsbD 5 = s.ln.miss ∧ (regValue .status s).getLsbD 6 = s.tmr.resyncReq ∧
      (regValue .status s).getLsbD 7 = s.ctl.outEn ∧ (regValue .status s).getLsbD 8 = s.tmr.ltPend ∧
      (regValue .status s).getLsbD 9 = s.tmr.saPend ∧ (regValue .status s).getLsbD 10 = s.tmr.ltSupp ∧
      (regValue .status s).getLsbD 11 = s.ctl.periph ∧
      (regValue .status s).extractLsb' 12 2 = regionCode s.ln.region ∧
      (regValue .status s).extractLsb' 14 2 = xstCode s.xfer.xst ∧
      (regValue .status s).getLsbD 16 = s.rm.busy ∧ (regValue .status s).getLsbD 17 = s.rm.pend ∧
      (regValue .status s).extractLsb' 18 14 = 0) ∧
    ((regValue .err s).extractLsb' 0 4 = cfgErrCode s.ctl.cfgErr ∧ (regValue .err s).extractLsb' 4 4 = 0 ∧
      (regValue .err s).getLsbD 8 = s.err.badState ∧ (regValue .err s).getLsbD 9 = s.err.badCmd ∧
      (regValue .err s).getLsbD 10 = s.err.ownViol ∧ (regValue .err s).getLsbD 11 = s.err.bounds ∧
      (regValue .err s).getLsbD 12 = s.err.clamped ∧ (regValue .err s).getLsbD 13 = s.err.badAccess ∧
      (regValue .err s).extractLsb' 14 18 = 0) ∧
    ((regValue .rmReq s).extractLsb' 0 16 = s.rm.line ∧ ((regValue .rmReq s).extractLsb' 16 3).toNat = s.rm.buf.val ∧
      (regValue .rmReq s).extractLsb' 19 12 = 0 ∧ (regValue .rmReq s).getLsbD 31 = s.rm.busy) ∧
    (s.params.wf = true →
      ((regValue .param s).extractLsb' 0 4).toNat = s.params.nbuf ∧ (regValue .param s).extractLsb' 4 4 = 1 ∧
      (regValue .param s).extractLsb' 8 8 = 0 ∧
      ((regValue .param s).extractLsb' 16 16).toNat = s.params.bufBytes) ∧
    (regValue .htim0 s = s.mode.hsEnd ++ s.mode.tLine ∧ regValue .htim1 s = s.mode.actEnd ++ s.mode.bpEnd ∧
      regValue .vtim0 s = s.mode.lVis ++ s.mode.lTotal ∧ regValue .vtim1 s = s.mode.vsEnd ++ s.mode.vsStart ∧
      regValue .syncSa s =
        s.mode.saPhase ++ s.mode.saDiv ++ 0#6 ++ BitVec.ofBool s.mode.vsPol ++ BitVec.ofBool s.mode.hsPol ∧
      regValue .saTol s = 0#16 ++ s.mode.saTol) ∧
    (regValue .line s = 0#16 ++ s.ln.line ∧ regValue .frame s = s.ln.frame ∧ regValue .seq s = s.ln.seq ∧
      regValue .cnt s = s.ln.resyncCnt ++ s.ln.missCnt ∧ regValue .wdog s = 0#8 ++ s.tmr.ltLost ++ s.tmr.wdCnt ∧
      regValue .timer s = 0#8 ++ s.tmr.saDivCnt ++ s.tmr.ltCnt ∧ regValue .cmd s = 0 ∧ regValue .rmDone s = 0) ∧
    ∀ b : Fin 8,
      regValue (.bufstat b) s =
        (s.buf b).vrange ++ 0#13 ++ BitVec.ofBool (s.buf b).discard ++ ownCode (s.buf b).own ∧
      regValue (.buftag b) s = (s.buf b).tag ∧ regValue (.bufline b) s = 0#16 ++ (s.buf b).tline

/-- For each read-only register (ID, PARAM, STATUS, RM_REQ, LINE, FRAME, SEQ, CNT, WDOG, TIMER, BUFSTAT[b], BUFTAG[b],
BUFLINE[b]), every data word and state, the write completes with e_bad_access set, then Dispatch; nothing else
changes. (For b >= NBUF the same holds, the register being unmapped.) (R273) -/
def Obligations.ReadOnlyRegistersRefuseWrites : Prop :=
  ∀ (d : Word) (s : State) (r : HostReg),
    (r ∈ [HostReg.id, .param, .status, .rmReq, .line, .frame, .seq, .cnt, .wdog, .timer] ∨
      ∃ b : Fin 8, r = .bufstat b ∨ r = .buftag b ∨ r = .bufline b) →
    exec (Instr.ofWrite d r) s = .next (dispatchFill { s with err := { s.err with badAccess := true } })

/-- In every state and driver state a write of d to ERR completes: each sticky bit whose position holds a 1 in d clears,
the others keep their values, cfg_err and everything else are as before, then Dispatch. (R274) -/
def Obligations.ErrWriteClearsOnes : Prop :=
  ∀ (d : Word) (s : State),
    exec (.hwrErr d) s = .next (dispatchFill { s with err :=
      { badState := if d.getLsbD 8 then false else s.err.badState
        badCmd := if d.getLsbD 9 then false else s.err.badCmd
        ownViol := if d.getLsbD 10 then false else s.err.ownViol
        bounds := if d.getLsbD 11 then false else s.err.bounds
        clamped := if d.getLsbD 12 then false else s.err.clamped
        badAccess := if d.getLsbD 13 then false else s.err.badAccess } })

/-- Outside rastering a write of d to a mode register completes; the register then reads d with the bits outside its
fields 0 (SYNC_SA 7:2, SA_TOL 31:16), every other mode register reads as before, CONFIGURED and STOPPED become
UNINIT, and nothing else changes but what Dispatch does. (R127) -/
def Obligations.ModeWriteReadsBack : Prop :=
  ∀ (d : Word) (s : State) (r : HostReg), r ∈ [HostReg.htim0, .htim1, .vtim0, .vtim1, .syncSa, .saTol] →
    s.ctl.drv ≠ .rastering →
    ∃ m : Mode,
      exec (Instr.ofWrite d r) s =
        .next (dispatchFill { s with mode := m, ctl := { s.ctl with drv := .uninit } }) ∧
      regValue r { s with mode := m } =
        (match r with
        | .syncSa => d &&& 0xFFFFFF03#32
        | .saTol => d &&& 0x0000FFFF#32
        | _ => d) ∧
      ∀ r' ∈ [HostReg.htim0, .htim1, .vtim0, .vtim1, .syncSa, .saTol], r' ≠ r →
        regValue r' { s with mode := m } = regValue r' s

/-- While rastering, a write to any of the six mode registers completes with e_bad_state set, then Dispatch; nothing
else changes. (R276, R44) -/
def Obligations.ModeWriteRefusedWhileRastering : Prop :=
  ∀ (d : Word) (s : State) (r : HostReg), r ∈ [HostReg.htim0, .htim1, .vtim0, .vtim1, .syncSa, .saTol] →
    s.ctl.drv = .rastering →
    exec (Instr.ofWrite d r) s = .next (dispatchFill { s with err := { s.err with badState := true } })

/-- HWR.SZ3 completes with e_bad_access set, then Dispatch; HRD.SZ3 completes with e_bad_access set and 0 returned, then
Dispatch; nothing else changes. (R116) -/
def Obligations.ReservedSizeIsBadAccess : Prop :=
  ∀ s : State,
    exec .hwrSz3 s = .next (dispatchFill { s with err := { s.err with badAccess := true } }) ∧
    exec .hrdSz3 s = .next (dispatchFill
      { s with err := { s.err with badAccess := true }, events := s.events ++ [.hostData 0] })

/-- A plain HWR or HRD completes: where the address is below 0x100 and the access is not an aligned word, and where the
address is neither a register offset nor in the buffer window, the write changes nothing but e_bad_access and the
read returns 0 with e_bad_access; then Dispatch. Every well-formed plain HWR or HRD has that effect. (R86, R87,
R271, R272) -/
def Obligations.BadHostAccessesAreRefused : Prop :=
  ∀ (n : Size) (a : Addr) (d : Word) (s : State),
    ((a.toNat < 0x100 ∧ (n ≠ .word ∨ a.toNat % 4 ≠ 0)) ∨
      (a.toNat < 0x100 ∧ HostReg.ofOffset? a = none) ∨ (0x100 ≤ a.toNat ∧ a.toNat < 0x1000) ∨ 0x9000 ≤ a.toNat ∨
      (Instr.hwr n a d).wellFormed = true ∨ (Instr.hrd n a).wellFormed = true) →
    exec (.hwr n a d) s = .next (dispatchFill { s with err := { s.err with badAccess := true } }) ∧
    exec (.hrd n a) s = .next (dispatchFill
      { s with err := { s.err with badAccess := true }, events := s.events ++ [.hostData 0] })

/-- CONFIGURE completes: while rastering only e_bad_state is raised; else an invalid mode gives cfg_err = INVALID_MODE
and UNINIT, whatever the peripheral; else an unavailable peripheral gives PERIPH_UNAVAILABLE and UNINIT; else
cfg_err = none and CONFIGURED; then Dispatch; nothing else changes. (R283, R284) -/
def Obligations.ConfigureChecksInOrder : Prop :=
  ∀ s : State,
    (s.ctl.drv = .rastering →
      exec .configure s = .next (dispatchFill { s with err := { s.err with badState := true } })) ∧
    (s.ctl.drv ≠ .rastering → modeOk s.mode = false →
      exec .configure s = .next (dispatchFill { s with ctl := { s.ctl with cfgErr := .invalidMode, drv := .uninit } })) ∧
    (s.ctl.drv ≠ .rastering → modeOk s.mode = true → s.ctl.periph = false →
      exec .configure s =
        .next (dispatchFill { s with ctl := { s.ctl with cfgErr := .periphUnavailable, drv := .uninit } })) ∧
    (s.ctl.drv ≠ .rastering → modeOk s.mode = true → s.ctl.periph = true →
      exec .configure s = .next (dispatchFill { s with ctl := { s.ctl with cfgErr := .none, drv := .configured } }))

/-- modeOk holds exactly when all the conditions of mode_ok hold, L_TOTAL - L_VIS taken where L_VIS < L_TOTAL; SA_TOL,
HS_POL and VS_POL take any value; and in every accepted mode the four horizontal regions are at least one tick each
and sum to T_LINE. (R282) -/
def Obligations.ModeCheckIsTheRule : Prop :=
  ∀ m : Mode,
    (modeOk m = true ↔
      1 ≤ m.hsEnd.toNat ∧ m.hsEnd.toNat < m.bpEnd.toNat ∧ m.bpEnd.toNat < m.actEnd.toNat ∧
      m.actEnd.toNat < m.tLine.toNat ∧ 1 ≤ m.lVis.toNat ∧ m.lVis.toNat < m.lTotal.toNat ∧
      m.vsStart.toNat < m.vsEnd.toNat ∧ m.vsEnd.toNat + m.lVis.toNat ≤ m.lTotal.toNat ∧
      1 ≤ m.saDiv.toNat ∧ 1 ≤ m.saPhase.toNat ∧ m.saPhase.toNat < m.tLine.toNat) ∧
    (∀ (tol : Count) (hp vp : Bool), modeOk { m with saTol := tol, hsPol := hp, vsPol := vp } = modeOk m) ∧
    (modeOk m = true →
      1 ≤ m.hsEnd.toNat ∧ 1 ≤ m.bpEnd.toNat - m.hsEnd.toNat ∧ 1 ≤ m.actEnd.toNat - m.bpEnd.toNat ∧
      1 ≤ m.tLine.toNat - m.actEnd.toNat ∧
      m.hsEnd.toNat + (m.bpEnd.toNat - m.hsEnd.toNat) + (m.actEnd.toNat - m.bpEnd.toNat)
        + (m.tLine.toNat - m.actEnd.toNat) = m.tLine.toNat)

/-- From CONFIGURED or STOPPED START completes: drv = RASTERING, hsm = ARMED, every timer, pending bit, line field and
counter 0, region VSYNC if VS_START = 0 else BLANK. Every READY buffer is FREE and every other buffer as before (a
FILLING one keeps its discard mark), but for the one that Dispatch fills. With one vertical-blank line the request
for seq 1, index 0 is made: it waits if a fill is in service, or if no buffer is FREE or was READY; else the least
such buffer is FILLING for it, with RmReq. With more than one vertical-blank line no request waits. out_en, cfg_err,
periph, the mode, the transfer state, the error bits and every byte are as before. From UNINIT or RASTERING only
e_bad_state is raised. (R285, R163, R232, R234, R272) -/
def Obligations.StartBeginsARaster : Prop :=
  ∀ s : State,
    (s.ctl.drv = .uninit ∨ s.ctl.drv = .rastering →
      exec .start s = .next (dispatchFill { s with err := { s.err with badState := true } })) ∧
    (s.ctl.drv = .configured ∨ s.ctl.drv = .stopped →
      ∃ t, exec .start s = .next t ∧
        t.ctl = { s.ctl with drv := .rastering, hsm := .armed } ∧
        t.tmr = ⟨0, 0, 0, false, false, false, 0, false⟩ ∧
        t.ln = ⟨0, 0, 0, if s.mode.vsStart = 0 then .vsync else .blank, false, 0, 0⟩ ∧
        t.mode = s.mode ∧ t.err = s.err ∧ t.xfer = s.xfer ∧ (∀ (b : Fin 8) (o : Nat), readByte t b o = readByte s b o) ∧
        (s.mode.lTotal.toNat ≠ s.mode.lVis.toNat + 1 →
          t.rm = { s.rm with pend := false } ∧ t.events = s.events ∧
          ∀ b : Fin 8, b.val < s.params.nbuf →
            t.buf b = if (s.buf b).own = .ready then { s.buf b with own := .free } else s.buf b) ∧
        (s.mode.lTotal.toNat = s.mode.lVis.toNat + 1 →
          (s.rm.busy = true ∨
              (∀ b : Fin 8, b.val < s.params.nbuf → (s.buf b).own ≠ .free ∧ (s.buf b).own ≠ .ready) →
            t.rm = { s.rm with pend := true, pendSeq := 1, pendLine := 0 } ∧ t.events = s.events ∧
            ∀ b : Fin 8, b.val < s.params.nbuf →
              t.buf b = if (s.buf b).own = .ready then { s.buf b with own := .free } else s.buf b) ∧
          ∀ b : Fin 8, s.rm.busy = false → b.val < s.params.nbuf →
            ((s.buf b).own = .free ∨ (s.buf b).own = .ready) →
            (∀ c : Fin 8, c < b → (s.buf c).own ≠ .free ∧ (s.buf c).own ≠ .ready) →
            t.rm = ⟨true, b, 0, false, 1, 0⟩ ∧ t.events = s.events ++ [.rmReq b 0] ∧
            t.buf b = ⟨.filling, false, 1, 0, (s.buf b).vrange⟩ ∧
            ∀ c : Fin 8, c.val < s.params.nbuf → c ≠ b →
              t.buf c = if (s.buf c).own = .ready then { s.buf c with own := .free } else s.buf c))

/-- While rastering STOP completes: drv = STOPPED, hsm = IDLE, lt_pend, sa_pend, lt_supp, resync_req, miss and the
waiting request clear; a streaming transfer emits DmaStop; the transfer is IDLE and its buffer FREE; READY buffers
are FREE and FILLING ones marked discard; the counters, lt_cnt, wd_cnt, sa_div_cnt, lt_lost, line, seq, frame,
region, the fill in service, out_en, cfg_err, periph, the mode, the error bits and every byte are as before.
Otherwise only e_bad_state is raised. (R287, R238) -/
def Obligations.StopEndsTheRaster : Prop :=
  ∀ s : State,
    (s.ctl.drv ≠ .rastering →
      exec .stop s = .next (dispatchFill { s with err := { s.err with badState := true } })) ∧
    (s.ctl.drv = .rastering →
      ∃ t, exec .stop s = .next t ∧
        t.ctl = { s.ctl with drv := .stopped, hsm := .idle } ∧
        t.tmr = { s.tmr with ltPend := false, saPend := false, ltSupp := false, resyncReq := false } ∧
        t.ln = { s.ln with miss := false } ∧ t.rm = { s.rm with pend := false } ∧
        t.events = s.events ++ (if s.xfer.xst = .streaming then [.dmaStop s.xfer.xbuf] else []) ∧
        t.xfer = { s.xfer with xst := .idle } ∧ t.mode = s.mode ∧ t.err = s.err ∧ t.mem = s.mem ∧
        ∀ b : Fin 8, b.val < s.params.nbuf →
          t.buf b =
            (if s.xfer.xst ≠ .idle ∧ b = s.xfer.xbuf then { s.buf b with own := .free }
            else match (s.buf b).own with
              | .ready => { s.buf b with own := .free }
              | .filling => { s.buf b with discard := true }
              | .free => s.buf b
              | .xfer => s.buf b))

/-- In every state: NOP changes nothing; a reserved command only sets e_bad_cmd; SET_OUTPUT only writes out_en (an armed
or streaming buffer is not recalled); PERIPH only writes periph; INJECT_LT_SUPPRESS sets lt_supp while rastering and
only e_bad_state otherwise. Each completes and ends with Dispatch. (R280, R281, R289, R215, R299, R272, R232) -/
def Obligations.SimpleOperationsDoOneThing : Prop :=
  ∀ s : State,
    exec .nop s = .next (dispatchFill s) ∧
    (∀ c : BitVec 8, exec (.reservedCmd c) s = .next (dispatchFill { s with err := { s.err with badCmd := true } })) ∧
    (∀ en : Bool, exec (.setOutput en) s = .next (dispatchFill { s with ctl := { s.ctl with outEn := en } })) ∧
    (∀ v : Bool, exec (.periph v) s = .next (dispatchFill { s with ctl := { s.ctl with periph := v } })) ∧
    (s.ctl.drv = .rastering →
      exec .injectLtSuppress s = .next (dispatchFill { s with tmr := { s.tmr with ltSupp := true } })) ∧
    (s.ctl.drv ≠ .rastering →
      exec .injectLtSuppress s = .next (dispatchFill { s with err := { s.err with badState := true } }))

/-- From a state in lock step (Inv, rastering, no firing pending, lost or to be suppressed, no resynchronization
requested, wd_cnt = lt_cnt) one ideal tick completes and leaves a state in lock step, with resync_cnt as before.
(R214, R201, R155, R156) -/
def Obligations.IdealTickKeepsLockStep : Prop :=
  ∀ s : State, LockStep s → ∃ t, itick s = .next t ∧ LockStep t ∧ t.ln.resyncCnt = s.ln.resyncCnt

/-- From a state in lock step, n ideal ticks complete; lt_cnt is the tick of the real line, line and seq have advanced
by the number of line-timer wraps, and frame by the number of frames they complete: a frame is L_TOTAL * T_LINE
ticks. (R214, R381, R382, R165) -/
def Obligations.IdealTicksKeepRealTime : Prop :=
  ∀ (n : Nat) (s : State), LockStep s → ∃ t, iticks n s = .next t ∧ LockStep t ∧
    ∀ wraps : Nat, wraps = (s.tmr.ltCnt.toNat + n) / s.mode.tLine.toNat →
      t.tmr.ltCnt.toNat = (s.tmr.ltCnt.toNat + n) % s.mode.tLine.toNat ∧
      t.ln.seq = s.ln.seq + BitVec.ofNat 32 wraps ∧
      t.ln.line.toNat = (s.ln.line.toNat + wraps) % s.mode.lTotal.toNat ∧
      t.ln.frame = s.ln.frame + BitVec.ofNat 32 ((s.ln.line.toNat + wraps) / s.mode.lTotal.toNat)

/-- From a state in lock step INJECT_LT_SUPPRESS completes; after any number n of ideal ticks that reaches the start of
the SA_DIV-th real line after the suppressed one (SA_DIV + 1 wraps), the block is in lock step again and line, seq
and frame are what they would be had no firing been lost. (R206, R202, R215, R382) -/
def Obligations.LostFiringIsCaughtUp : Prop :=
  ∀ (n : Nat) (s : State), LockStep s → ∃ u, exec .injectLtSuppress s = .next u ∧
    ∀ wraps : Nat, wraps = (s.tmr.ltCnt.toNat + n) / s.mode.tLine.toNat → s.mode.saDiv.toNat + 1 ≤ wraps →
      ∃ t, iticks n u = .next t ∧ LockStep t ∧
        t.ln.seq = s.ln.seq + BitVec.ofNat 32 wraps ∧
        t.ln.line.toNat = (s.ln.line.toNat + wraps) % s.mode.lTotal.toNat ∧
        t.ln.frame = s.ln.frame + BitVec.ofNat 32 ((s.ln.line.toNat + wraps) / s.mode.lTotal.toNat)
end

