-- ==== Sys2Proof/Laws/Decode.lean ====
section
/-! SUPPORT. The fields of an encoded word, the register map and the window read back from what they were built of. -/

namespace Sys2Proof

/-- The bits of a transaction word, field by field. -/
theorem txnWord_getLsbD (op : BitVec 8) (sz : BitVec 2) (a : Addr) (d : Word) (i : Nat) :
    (txnWord op sz a d).getLsbD i =
      if i < 32 then d.getLsbD i else if i < 48 then a.getLsbD (i - 32) else if i < 50 then sz.getLsbD (i - 48)
      else if i < 56 then false else op.getLsbD (i - 56) := by
  show BitVec.getLsbD (w := 8 + 6 + 2 + 16 + 32) (op ++ 0#6 ++ sz ++ a ++ d) i = _
  simp only [BitVec.getLsbD_append, BitVec.getLsbD_zero]
  split_ifs <;> first | rfl | omega

@[simp] theorem txnOp_txnWord (op : BitVec 8) (sz : BitVec 2) (a : Addr) (d : Word) : txnOp (txnWord op sz a d) = op := by
  ext i hi
  simp only [txnOp, BitVec.getElem_extractLsb', txnWord_getLsbD]
  split_ifs <;> first | omega | (rw [← BitVec.getLsbD_eq_getElem]; congr 1; omega)

@[simp] theorem txnSz_txnWord (op : BitVec 8) (sz : BitVec 2) (a : Addr) (d : Word) : txnSz (txnWord op sz a d) = sz := by
  ext i hi
  simp only [txnSz, BitVec.getElem_extractLsb', txnWord_getLsbD]
  split_ifs <;> first | omega | (rw [← BitVec.getLsbD_eq_getElem]; congr 1; omega)

@[simp] theorem txnAddr_txnWord (op : BitVec 8) (sz : BitVec 2) (a : Addr) (d : Word) :
    txnAddr (txnWord op sz a d) = a := by
  ext i hi
  simp only [txnAddr, BitVec.getElem_extractLsb', txnWord_getLsbD]
  split_ifs <;> first | omega | (rw [← BitVec.getLsbD_eq_getElem]; congr 1; omega)

@[simp] theorem txnData_txnWord (op : BitVec 8) (sz : BitVec 2) (a : Addr) (d : Word) :
    txnData (txnWord op sz a d) = d := by
  ext i hi
  simp only [txnData, BitVec.getElem_extractLsb', txnWord_getLsbD]
  split_ifs <;> first | omega | (rw [← BitVec.getLsbD_eq_getElem]; congr 1; omega)

@[simp] theorem Size.ofCode?_code (n : Size) : Size.ofCode? n.code = some n := by cases n <;> rfl

/-- The register map names each register once. -/
@[simp] theorem HostReg.ofOffset?_offset (r : HostReg) : HostReg.ofOffset? r.offset = some r := by
  cases r <;> first | decide | (rename_i b; revert b; decide)

theorem HostReg.offset_of_ofOffset? (a : Addr) (r : HostReg) (h : HostReg.ofOffset? a = some r) : r.offset = a := by
  simpa using List.find?_some h

/-- No register lies in the buffer window, and every register is word-aligned in the first 256 bytes (R67, R92). -/
theorem HostReg.offset_low (r : HostReg) : r.offset.toNat < 0x100 ∧ r.offset.toNat % 4 = 0 := by
  cases r <;> first | decide | (rename_i b; revert b; decide)

theorem HostReg.offset_not_inWindow (r : HostReg) : inWindow r.offset = false := by
  have := r.offset_low.1
  simp [inWindow]
  omega

theorem windowAddr_toNat (b : Fin 8) (o : BitVec 12) : (windowAddr b o).toNat = 0x1000 * (b.val + 1) + o.toNat := by
  have hb : (b.val + 1) % 2 ^ 4 = b.val + 1 := Nat.mod_eq_of_lt (by omega)
  rw [windowAddr, BitVec.toNat_append, BitVec.toNat_ofNat, hb, ← Nat.shiftLeft_add_eq_or_of_lt o.isLt, Nat.shiftLeft_eq]
  omega

@[simp] theorem inWindow_windowAddr (b : Fin 8) (o : BitVec 12) : inWindow (windowAddr b o) = true := by
  have h := windowAddr_toNat b o
  have ho := o.isLt
  simp [inWindow]
  omega

@[simp] theorem windowOff_windowAddr (b : Fin 8) (o : BitVec 12) : windowOff (windowAddr b o) = o := by
  apply BitVec.eq_of_toNat_eq
  have h := windowAddr_toNat b o
  have ho := o.isLt
  simp only [windowOff, BitVec.extractLsb'_toNat, h, Nat.shiftRight_zero]
  omega

@[simp] theorem windowBuf_windowAddr (b : Fin 8) (o : BitVec 12) : windowBuf (windowAddr b o) = b := by
  have h : (windowAddr b o).extractLsb' 12 4 = BitVec.ofNat 4 (b.val + 1) := by
    apply BitVec.eq_of_toNat_eq
    have h := windowAddr_toNat b o
    have ho := o.isLt
    simp only [BitVec.extractLsb'_toNat, BitVec.toNat_ofNat, h, Nat.shiftRight_eq_div_pow]
    omega
  rw [windowBuf, h]
  clear h
  revert b
  decide

end Sys2Proof
end

