-- ==== Sys2Proof/Laws/State.lean ====
section
/-! SUPPORT. The fields each shared operation leaves unchanged, one lemma for each field of `State`, and what it does to the
field it changes. -/

namespace Sys2Proof.Machine

/-- Buffer states are equal where the buffer vectors are. -/
theorem buf_congr (s t : State) (h : s.bufs = t.bufs) (b : Fin 8) : s.buf b = t.buf b := by simp [State.buf, h]

/-- Existence of a buffer depends on the parameters alone. -/
theorem hasBuf_congr (s t : State) (h : s.params = t.params) (b : Fin 8) : s.hasBuf b = t.hasBuf b := by
  simp [State.hasBuf, h]

theorem hasBuf_iff (s : State) (b : Fin 8) : s.hasBuf b = true ↔ b.val < s.params.nbuf := by simp [State.hasBuf]

/-! #### `emit` -/
@[simp] theorem emit_params (e : Event) (s : State) : (emit e s).params = s.params := rfl
@[simp] theorem emit_mode (e : Event) (s : State) : (emit e s).mode = s.mode := rfl
@[simp] theorem emit_ctl (e : Event) (s : State) : (emit e s).ctl = s.ctl := rfl
@[simp] theorem emit_err (e : Event) (s : State) : (emit e s).err = s.err := rfl
@[simp] theorem emit_tmr (e : Event) (s : State) : (emit e s).tmr = s.tmr := rfl
@[simp] theorem emit_ln (e : Event) (s : State) : (emit e s).ln = s.ln := rfl
@[simp] theorem emit_xfer (e : Event) (s : State) : (emit e s).xfer = s.xfer := rfl
@[simp] theorem emit_bufs (e : Event) (s : State) : (emit e s).bufs = s.bufs := rfl
@[simp] theorem emit_mem (e : Event) (s : State) : (emit e s).mem = s.mem := rfl
@[simp] theorem emit_rm (e : Event) (s : State) : (emit e s).rm = s.rm := rfl
@[simp] theorem emit_draws (e : Event) (s : State) : (emit e s).draws = s.draws := rfl
@[simp] theorem emit_inputs (e : Event) (s : State) : (emit e s).inputs = s.inputs := rfl
@[simp] theorem emit_buf (e : Event) (s : State) (c : Fin 8) : (emit e s).buf c = s.buf c := buf_congr _ _ (by simp) c
@[simp] theorem emit_hasBuf (e : Event) (s : State) (c : Fin 8) : (emit e s).hasBuf c = s.hasBuf c := hasBuf_congr _ _ (by simp) c

/-! #### `raise` -/
@[simp] theorem raise_params (e : ErrBit) (s : State) : (raise e s).params = s.params := by cases e <;> rfl
@[simp] theorem raise_mode (e : ErrBit) (s : State) : (raise e s).mode = s.mode := by cases e <;> rfl
@[simp] theorem raise_ctl (e : ErrBit) (s : State) : (raise e s).ctl = s.ctl := by cases e <;> rfl
@[simp] theorem raise_tmr (e : ErrBit) (s : State) : (raise e s).tmr = s.tmr := by cases e <;> rfl
@[simp] theorem raise_ln (e : ErrBit) (s : State) : (raise e s).ln = s.ln := by cases e <;> rfl
@[simp] theorem raise_xfer (e : ErrBit) (s : State) : (raise e s).xfer = s.xfer := by cases e <;> rfl
@[simp] theorem raise_bufs (e : ErrBit) (s : State) : (raise e s).bufs = s.bufs := by cases e <;> rfl
@[simp] theorem raise_mem (e : ErrBit) (s : State) : (raise e s).mem = s.mem := by cases e <;> rfl
@[simp] theorem raise_rm (e : ErrBit) (s : State) : (raise e s).rm = s.rm := by cases e <;> rfl
@[simp] theorem raise_draws (e : ErrBit) (s : State) : (raise e s).draws = s.draws := by cases e <;> rfl
@[simp] theorem raise_events (e : ErrBit) (s : State) : (raise e s).events = s.events := by cases e <;> rfl
@[simp] theorem raise_inputs (e : ErrBit) (s : State) : (raise e s).inputs = s.inputs := by cases e <;> rfl
@[simp] theorem raise_buf (e : ErrBit) (s : State) (c : Fin 8) : (raise e s).buf c = s.buf c := buf_congr _ _ (by simp) c
@[simp] theorem raise_hasBuf (e : ErrBit) (s : State) (c : Fin 8) : (raise e s).hasBuf c = s.hasBuf c := hasBuf_congr _ _ (by simp) c

/-! #### `setBuf` -/
@[simp] theorem setBuf_params (b : Fin 8) (x : Buf) (s : State) : (setBuf b x s).params = s.params := rfl
@[simp] theorem setBuf_mode (b : Fin 8) (x : Buf) (s : State) : (setBuf b x s).mode = s.mode := rfl
@[simp] theorem setBuf_ctl (b : Fin 8) (x : Buf) (s : State) : (setBuf b x s).ctl = s.ctl := rfl
@[simp] theorem setBuf_err (b : Fin 8) (x : Buf) (s : State) : (setBuf b x s).err = s.err := rfl
@[simp] theorem setBuf_tmr (b : Fin 8) (x : Buf) (s : State) : (setBuf b x s).tmr = s.tmr := rfl
@[simp] theorem setBuf_ln (b : Fin 8) (x : Buf) (s : State) : (setBuf b x s).ln = s.ln := rfl
@[simp] theorem setBuf_xfer (b : Fin 8) (x : Buf) (s : State) : (setBuf b x s).xfer = s.xfer := rfl
@[simp] theorem setBuf_mem (b : Fin 8) (x : Buf) (s : State) : (setBuf b x s).mem = s.mem := rfl
@[simp] theorem setBuf_rm (b : Fin 8) (x : Buf) (s : State) : (setBuf b x s).rm = s.rm := rfl
@[simp] theorem setBuf_draws (b : Fin 8) (x : Buf) (s : State) : (setBuf b x s).draws = s.draws := rfl
@[simp] theorem setBuf_events (b : Fin 8) (x : Buf) (s : State) : (setBuf b x s).events = s.events := rfl
@[simp] theorem setBuf_inputs (b : Fin 8) (x : Buf) (s : State) : (setBuf b x s).inputs = s.inputs := rfl
@[simp] theorem setBuf_hasBuf (b : Fin 8) (x : Buf) (s : State) (c : Fin 8) : (setBuf b x s).hasBuf c = s.hasBuf c := hasBuf_congr _ _ (by simp) c

/-! #### `setOwn` -/
@[simp] theorem setOwn_params (b : Fin 8) (o : Own) (s : State) : (setOwn b o s).params = s.params := rfl
@[simp] theorem setOwn_mode (b : Fin 8) (o : Own) (s : State) : (setOwn b o s).mode = s.mode := rfl
@[simp] theorem setOwn_ctl (b : Fin 8) (o : Own) (s : State) : (setOwn b o s).ctl = s.ctl := rfl
@[simp] theorem setOwn_err (b : Fin 8) (o : Own) (s : State) : (setOwn b o s).err = s.err := rfl
@[simp] theorem setOwn_tmr (b : Fin 8) (o : Own) (s : State) : (setOwn b o s).tmr = s.tmr := rfl
@[simp] theorem setOwn_ln (b : Fin 8) (o : Own) (s : State) : (setOwn b o s).ln = s.ln := rfl
@[simp] theorem setOwn_xfer (b : Fin 8) (o : Own) (s : State) : (setOwn b o s).xfer = s.xfer := rfl
@[simp] theorem setOwn_mem (b : Fin 8) (o : Own) (s : State) : (setOwn b o s).mem = s.mem := rfl
@[simp] theorem setOwn_rm (b : Fin 8) (o : Own) (s : State) : (setOwn b o s).rm = s.rm := rfl
@[simp] theorem setOwn_draws (b : Fin 8) (o : Own) (s : State) : (setOwn b o s).draws = s.draws := rfl
@[simp] theorem setOwn_events (b : Fin 8) (o : Own) (s : State) : (setOwn b o s).events = s.events := rfl
@[simp] theorem setOwn_inputs (b : Fin 8) (o : Own) (s : State) : (setOwn b o s).inputs = s.inputs := rfl
@[simp] theorem setOwn_hasBuf (b : Fin 8) (o : Own) (s : State) (c : Fin 8) : (setOwn b o s).hasBuf c = s.hasBuf c := hasBuf_congr _ _ (by simp) c

/-! #### `mapBufs` -/
@[simp] theorem mapBufs_params (f : Buf → Buf) (s : State) : (mapBufs f s).params = s.params := rfl
@[simp] theorem mapBufs_mode (f : Buf → Buf) (s : State) : (mapBufs f s).mode = s.mode := rfl
@[simp] theorem mapBufs_ctl (f : Buf → Buf) (s : State) : (mapBufs f s).ctl = s.ctl := rfl
@[simp] theorem mapBufs_err (f : Buf → Buf) (s : State) : (mapBufs f s).err = s.err := rfl
@[simp] theorem mapBufs_tmr (f : Buf → Buf) (s : State) : (mapBufs f s).tmr = s.tmr := rfl
@[simp] theorem mapBufs_ln (f : Buf → Buf) (s : State) : (mapBufs f s).ln = s.ln := rfl
@[simp] theorem mapBufs_xfer (f : Buf → Buf) (s : State) : (mapBufs f s).xfer = s.xfer := rfl
@[simp] theorem mapBufs_mem (f : Buf → Buf) (s : State) : (mapBufs f s).mem = s.mem := rfl
@[simp] theorem mapBufs_rm (f : Buf → Buf) (s : State) : (mapBufs f s).rm = s.rm := rfl
@[simp] theorem mapBufs_draws (f : Buf → Buf) (s : State) : (mapBufs f s).draws = s.draws := rfl
@[simp] theorem mapBufs_events (f : Buf → Buf) (s : State) : (mapBufs f s).events = s.events := rfl
@[simp] theorem mapBufs_inputs (f : Buf → Buf) (s : State) : (mapBufs f s).inputs = s.inputs := rfl
@[simp] theorem mapBufs_hasBuf (f : Buf → Buf) (s : State) (c : Fin 8) : (mapBufs f s).hasBuf c = s.hasBuf c := hasBuf_congr _ _ (by simp) c

/-! #### `writeByte` -/
@[simp] theorem writeByte_params (b : Fin 8) (o : Nat) (v : Byte) (s : State) : (writeByte b o v s).params = s.params := rfl
@[simp] theorem writeByte_mode (b : Fin 8) (o : Nat) (v : Byte) (s : State) : (writeByte b o v s).mode = s.mode := rfl
@[simp] theorem writeByte_ctl (b : Fin 8) (o : Nat) (v : Byte) (s : State) : (writeByte b o v s).ctl = s.ctl := rfl
@[simp] theorem writeByte_err (b : Fin 8) (o : Nat) (v : Byte) (s : State) : (writeByte b o v s).err = s.err := rfl
@[simp] theorem writeByte_tmr (b : Fin 8) (o : Nat) (v : Byte) (s : State) : (writeByte b o v s).tmr = s.tmr := rfl
@[simp] theorem writeByte_ln (b : Fin 8) (o : Nat) (v : Byte) (s : State) : (writeByte b o v s).ln = s.ln := rfl
@[simp] theorem writeByte_xfer (b : Fin 8) (o : Nat) (v : Byte) (s : State) : (writeByte b o v s).xfer = s.xfer := rfl
@[simp] theorem writeByte_bufs (b : Fin 8) (o : Nat) (v : Byte) (s : State) : (writeByte b o v s).bufs = s.bufs := rfl
@[simp] theorem writeByte_rm (b : Fin 8) (o : Nat) (v : Byte) (s : State) : (writeByte b o v s).rm = s.rm := rfl
@[simp] theorem writeByte_draws (b : Fin 8) (o : Nat) (v : Byte) (s : State) : (writeByte b o v s).draws = s.draws := rfl
@[simp] theorem writeByte_events (b : Fin 8) (o : Nat) (v : Byte) (s : State) : (writeByte b o v s).events = s.events := rfl
@[simp] theorem writeByte_inputs (b : Fin 8) (o : Nat) (v : Byte) (s : State) : (writeByte b o v s).inputs = s.inputs := rfl
@[simp] theorem writeByte_buf (b : Fin 8) (o : Nat) (v : Byte) (s : State) (c : Fin 8) : (writeByte b o v s).buf c = s.buf c := buf_congr _ _ (by simp) c
@[simp] theorem writeByte_hasBuf (b : Fin 8) (o : Nat) (v : Byte) (s : State) (c : Fin 8) : (writeByte b o v s).hasBuf c = s.hasBuf c := hasBuf_congr _ _ (by simp) c

/-! #### `beginStep` -/
@[simp] theorem beginStep_params (rest : List OpWord) (s : State) : (beginStep rest s).params = s.params := rfl
@[simp] theorem beginStep_mode (rest : List OpWord) (s : State) : (beginStep rest s).mode = s.mode := rfl
@[simp] theorem beginStep_ctl (rest : List OpWord) (s : State) : (beginStep rest s).ctl = s.ctl := rfl
@[simp] theorem beginStep_err (rest : List OpWord) (s : State) : (beginStep rest s).err = s.err := rfl
@[simp] theorem beginStep_tmr (rest : List OpWord) (s : State) : (beginStep rest s).tmr = s.tmr := rfl
@[simp] theorem beginStep_ln (rest : List OpWord) (s : State) : (beginStep rest s).ln = s.ln := rfl
@[simp] theorem beginStep_xfer (rest : List OpWord) (s : State) : (beginStep rest s).xfer = s.xfer := rfl
@[simp] theorem beginStep_bufs (rest : List OpWord) (s : State) : (beginStep rest s).bufs = s.bufs := rfl
@[simp] theorem beginStep_mem (rest : List OpWord) (s : State) : (beginStep rest s).mem = s.mem := rfl
@[simp] theorem beginStep_rm (rest : List OpWord) (s : State) : (beginStep rest s).rm = s.rm := rfl
@[simp] theorem beginStep_draws (rest : List OpWord) (s : State) : (beginStep rest s).draws = s.draws := rfl
@[simp] theorem beginStep_buf (rest : List OpWord) (s : State) (c : Fin 8) : (beginStep rest s).buf c = s.buf c := buf_congr _ _ (by simp) c
@[simp] theorem beginStep_hasBuf (rest : List OpWord) (s : State) (c : Fin 8) : (beginStep rest s).hasBuf c = s.hasBuf c := hasBuf_congr _ _ (by simp) c

/-! #### `dispatchTo` -/
@[simp] theorem dispatchTo_params (b : Fin 8) (s : State) : (dispatchTo b s).params = s.params := rfl
@[simp] theorem dispatchTo_mode (b : Fin 8) (s : State) : (dispatchTo b s).mode = s.mode := rfl
@[simp] theorem dispatchTo_ctl (b : Fin 8) (s : State) : (dispatchTo b s).ctl = s.ctl := rfl
@[simp] theorem dispatchTo_err (b : Fin 8) (s : State) : (dispatchTo b s).err = s.err := rfl
@[simp] theorem dispatchTo_tmr (b : Fin 8) (s : State) : (dispatchTo b s).tmr = s.tmr := rfl
@[simp] theorem dispatchTo_ln (b : Fin 8) (s : State) : (dispatchTo b s).ln = s.ln := rfl
@[simp] theorem dispatchTo_xfer (b : Fin 8) (s : State) : (dispatchTo b s).xfer = s.xfer := rfl
@[simp] theorem dispatchTo_mem (b : Fin 8) (s : State) : (dispatchTo b s).mem = s.mem := rfl
@[simp] theorem dispatchTo_draws (b : Fin 8) (s : State) : (dispatchTo b s).draws = s.draws := rfl
@[simp] theorem dispatchTo_inputs (b : Fin 8) (s : State) : (dispatchTo b s).inputs = s.inputs := rfl
@[simp] theorem dispatchTo_hasBuf (b : Fin 8) (s : State) (c : Fin 8) : (dispatchTo b s).hasBuf c = s.hasBuf c := hasBuf_congr _ _ (by simp) c

/-! #### `dispatchFill` -/
@[simp] theorem dispatchFill_params (s : State) : (dispatchFill s).params = s.params := by unfold dispatchFill; split <;> [split; skip] <;> rfl
@[simp] theorem dispatchFill_mode (s : State) : (dispatchFill s).mode = s.mode := by unfold dispatchFill; split <;> [split; skip] <;> rfl
@[simp] theorem dispatchFill_ctl (s : State) : (dispatchFill s).ctl = s.ctl := by unfold dispatchFill; split <;> [split; skip] <;> rfl
@[simp] theorem dispatchFill_err (s : State) : (dispatchFill s).err = s.err := by unfold dispatchFill; split <;> [split; skip] <;> rfl
@[simp] theorem dispatchFill_tmr (s : State) : (dispatchFill s).tmr = s.tmr := by unfold dispatchFill; split <;> [split; skip] <;> rfl
@[simp] theorem dispatchFill_ln (s : State) : (dispatchFill s).ln = s.ln := by unfold dispatchFill; split <;> [split; skip] <;> rfl
@[simp] theorem dispatchFill_xfer (s : State) : (dispatchFill s).xfer = s.xfer := by unfold dispatchFill; split <;> [split; skip] <;> rfl
@[simp] theorem dispatchFill_mem (s : State) : (dispatchFill s).mem = s.mem := by unfold dispatchFill; split <;> [split; skip] <;> rfl
@[simp] theorem dispatchFill_draws (s : State) : (dispatchFill s).draws = s.draws := by unfold dispatchFill; split <;> [split; skip] <;> rfl
@[simp] theorem dispatchFill_inputs (s : State) : (dispatchFill s).inputs = s.inputs := by unfold dispatchFill; split <;> [split; skip] <;> rfl
@[simp] theorem dispatchFill_hasBuf (s : State) (c : Fin 8) : (dispatchFill s).hasBuf c = s.hasBuf c := hasBuf_congr _ _ (by simp) c

/-! #### The changed fields -/

@[simp] theorem emit_events (e : Event) (s : State) : (emit e s).events = s.events ++ [e] := rfl

@[simp] theorem beginStep_events (rest : List OpWord) (s : State) : (beginStep rest s).events = [] := rfl

@[simp] theorem beginStep_inputs (rest : List OpWord) (s : State) : (beginStep rest s).inputs = rest := rfl

@[simp] theorem writeByte_mem (b : Fin 8) (o : Nat) (v : Byte) (s : State) :
    (writeByte b o v s).mem = Memory.insert (bufAddr b o) v s.mem := rfl

theorem setBuf_buf (b c : Fin 8) (x : Buf) (s : State) : (setBuf b x s).buf c = if c = b then x else s.buf c := by
  simp [setBuf, State.buf, Vector.getElem_set, Fin.ext_iff, eq_comm]

@[simp] theorem setBuf_buf_same (b : Fin 8) (x : Buf) (s : State) : (setBuf b x s).buf b = x := by simp [setBuf_buf]

theorem setBuf_buf_other (b c : Fin 8) (x : Buf) (s : State) (h : c ≠ b) : (setBuf b x s).buf c = s.buf c := by
  simp [setBuf_buf, h]

theorem setOwn_buf (b c : Fin 8) (o : Own) (s : State) :
    (setOwn b o s).buf c = if c = b then { s.buf b with own := o } else s.buf c := setBuf_buf b c _ s

theorem mapBufs_buf (f : Buf → Buf) (s : State) (c : Fin 8) :
    (mapBufs f s).buf c = if s.hasBuf c then f (s.buf c) else s.buf c := by
  simp [mapBufs, State.buf, State.hasBuf]

theorem dispatchTo_buf (b c : Fin 8) (s : State) :
    (dispatchTo b s).buf c =
      if c = b then
        { s.buf b with own := .filling, discard := false, tag := s.rm.pendSeq, tline := s.rm.pendLine }
      else s.buf c := by
  simp only [dispatchTo, emit_buf, setBuf_buf]
  rfl

@[simp] theorem dispatchTo_rm (b : Fin 8) (s : State) :
    (dispatchTo b s).rm = { s.rm with busy := true, buf := b, line := s.rm.pendLine, pend := false } := rfl

@[simp] theorem dispatchTo_events (b : Fin 8) (s : State) :
    (dispatchTo b s).events = s.events ++ [.rmReq b s.rm.pendLine] := rfl

end Sys2Proof.Machine
end

