-- ==== Sys2Proof/Laws/Memory.lean ====
section
/-! SUPPORT. The buffer storage: a read after a write, the bytes a write leaves alone, and the canonical form kept by every
operation on it. -/

namespace Sys2Proof.Machine

/-! ### Listed bytes -/

@[simp] theorem Memory.lookup_insert_same (a : Nat) (v : Byte) (m : List Host.Cell) :
    Memory.lookup (Memory.insert a v m) a = some v := by
  induction m with
  | nil => simp [Memory.insert, Memory.lookup]
  | cons c r ih =>
    unfold Memory.insert
    split
    · simp [Memory.lookup]
    · split
      · simp [Memory.lookup]
      · have hc : ¬ c.1 = a := by omega
        simp [Memory.lookup, hc, ih]

theorem Memory.lookup_insert_other (a x : Nat) (v : Byte) (m : List Host.Cell) (h : x ≠ a) :
    Memory.lookup (Memory.insert a v m) x = Memory.lookup m x := by
  induction m with
  | nil => simp [Memory.insert, Memory.lookup, h.symm]
  | cons c r ih =>
    unfold Memory.insert
    split
    · simp [Memory.lookup, h.symm]
    · split
      · rename_i h1
        have hc : ¬ c.1 = x := by omega
        simp [Memory.lookup, h.symm, hc]
      · simp [Memory.lookup, ih]

/-! ### The canonical form -/

theorem Memory.risesFrom_mono (lo lo' : Nat) (m : List Host.Cell) (h : lo' ≤ lo) :
    Memory.risesFrom lo m = true → Memory.risesFrom lo' m = true := by
  cases m with
  | nil => simp [Memory.risesFrom]
  | cons c r =>
    simp only [Memory.risesFrom, Bool.and_eq_true, decide_eq_true_eq]
    exact fun ⟨h1, h2⟩ => ⟨by omega, h2⟩

theorem Memory.risesFrom_insert (lo a : Nat) (v : Byte) (m : List Host.Cell) (ha : lo ≤ a) :
    Memory.risesFrom lo m = true → Memory.risesFrom lo (Memory.insert a v m) = true := by
  induction m generalizing lo with
  | nil => intro _; simp [Memory.insert, Memory.risesFrom, ha]
  | cons c r ih =>
    intro h
    simp only [Memory.risesFrom, Bool.and_eq_true, decide_eq_true_eq] at h
    unfold Memory.insert
    split
    · rename_i h1
      simp only [Memory.risesFrom, Bool.and_eq_true, decide_eq_true_eq]
      exact ⟨ha, by omega, h.2⟩
    · split
      · rename_i h1 h2
        subst h2
        simp only [Memory.risesFrom, Bool.and_eq_true, decide_eq_true_eq]
        exact ⟨ha, h.2⟩
      · simp only [Memory.risesFrom, Bool.and_eq_true, decide_eq_true_eq]
        exact ⟨h.1, ih (c.1 + 1) (by omega) h.2⟩

/-- Listing a byte keeps the canonical form. -/
theorem Memory.wf_insert (a : Nat) (v : Byte) (m : List Host.Cell) (h : Memory.wf m = true) :
    Memory.wf (Memory.insert a v m) = true := Memory.risesFrom_insert 0 a v m (Nat.zero_le a) h

/-- Writing a byte keeps the canonical form. -/
theorem writeByte_wf (b : Fin 8) (o : Nat) (v : Byte) (s : State) (h : Memory.wf s.mem = true) :
    Memory.wf (writeByte b o v s).mem = true := Memory.wf_insert _ _ _ h

/-- A buffer write keeps the canonical form. -/
theorem bufWrite_wf (b : Fin 8) (o n : Nat) (d : Word) (s : State) (h : Memory.wf s.mem = true) :
    Memory.wf (bufWrite b o n d s).mem = true := by
  induction n generalizing o d s with
  | zero => exact h
  | succ n ih => exact ih _ _ _ (writeByte_wf b o _ s h)

/-- The storage after reset has the canonical form. -/
theorem resetWith_wf (p : Params) (n : Nat) (evs : List Event) (ins : List OpWord) :
    Memory.wf (State.resetWith p n evs ins).mem = true := rfl

/-- The storage of the machine right after reset has the canonical form. -/
theorem reset_wf : Memory.wf State.reset.mem = true := rfl

/-! ### Bytes of buffers -/

theorem bufAddr_inj (b c : Fin 8) (o p : Nat) (ho : o < 0x1000) (hp : p < 0x1000)
    (h : bufAddr b o = bufAddr c p) : b = c ∧ o = p := by
  unfold bufAddr at h
  exact ⟨Fin.ext (by omega), by omega⟩

theorem bufAddr_inj_left (b : Fin 8) (o p : Nat) (h : bufAddr b o = bufAddr b p) : o = p := by
  unfold bufAddr at h
  omega

/-- A byte is determined by the storage and the draw. -/
theorem readByte_congr (s t : State) (b : Fin 8) (o : Nat) (hm : s.mem = t.mem) (hd : s.draws = t.draws) :
    readByte s b o = readByte t b o := by simp [readByte, hm, hd]

@[simp] theorem readByte_writeByte_same (b : Fin 8) (o : Nat) (v : Byte) (s : State) :
    readByte (writeByte b o v s) b o = v := by simp [readByte]

theorem readByte_writeByte_other (b c : Fin 8) (o p : Nat) (v : Byte) (s : State)
    (h : bufAddr c p ≠ bufAddr b o) : readByte (writeByte b o v s) c p = readByte s c p := by
  simp [readByte, Memory.lookup_insert_other _ _ _ _ h]

/-- A buffer write changes nothing but the storage. -/
theorem bufWrite_eq (b : Fin 8) (o n : Nat) (d : Word) (s : State) :
    bufWrite b o n d s = { s with mem := (bufWrite b o n d s).mem } := by
  induction n generalizing o d s with
  | zero => rfl
  | succ n ih =>
    have h := ih (o + 1) (d >>> 8) (writeByte b o (d.setWidth 8) s)
    simp only [bufWrite]
    rw [h]
    rfl

/-- A buffer write leaves every byte outside its own bytes as it was. -/
theorem readByte_bufWrite_other (b c : Fin 8) (o n p : Nat) (d : Word) (s : State)
    (h : ∀ i, i < n → bufAddr c p ≠ bufAddr b (o + i)) : readByte (bufWrite b o n d s) c p = readByte s c p := by
  induction n generalizing o d s with
  | zero => rfl
  | succ n ih =>
    simp only [bufWrite]
    rw [ih (o + 1) (d >>> 8) _ (fun i hi => by
      have := h (i + 1) (by omega)
      rwa [Nat.add_assoc, Nat.add_comm 1 i])]
    exact readByte_writeByte_other b c o p _ s (by simpa using h 0 (by omega))

/-- Each byte a buffer write writes is the data's byte of that place. -/
theorem readByte_bufWrite_same (b : Fin 8) (o n i : Nat) (d : Word) (s : State) (h : i < n) :
    readByte (bufWrite b o n d s) b (o + i) = (d >>> (8 * i)).setWidth 8 := by
  induction n generalizing o d s i with
  | zero => omega
  | succ n ih =>
    simp only [bufWrite]
    cases i with
    | zero =>
      rw [readByte_bufWrite_other b b (o + 1) n (o + 0) (d >>> 8) _ (fun j _ hj => by
        have := bufAddr_inj_left b _ _ hj
        omega)]
      simp
    | succ i =>
      have h2 := ih (o + 1) i (d >>> 8) (writeByte b o (d.setWidth 8) s) (by omega)
      rw [show o + (i + 1) = o + 1 + i by omega, h2]
      rw [← BitVec.shiftRight_add]
      congr 2
      omega

end Sys2Proof.Machine
end

