-- ==== Sys2Proof/Laws/Stages.lean ====
section
/-! SUPPORT. The fields each stage of an operation leaves unchanged, one lemma for each field of `State`. -/

namespace Sys2Proof.Machine

/-! #### `countTick` -/
@[simp] theorem countTick_params (s : State) : (countTick s).params = s.params := rfl
@[simp] theorem countTick_mode (s : State) : (countTick s).mode = s.mode := rfl
@[simp] theorem countTick_ctl (s : State) : (countTick s).ctl = s.ctl := rfl
@[simp] theorem countTick_err (s : State) : (countTick s).err = s.err := rfl
@[simp] theorem countTick_ln (s : State) : (countTick s).ln = s.ln := rfl
@[simp] theorem countTick_xfer (s : State) : (countTick s).xfer = s.xfer := rfl
@[simp] theorem countTick_bufs (s : State) : (countTick s).bufs = s.bufs := rfl
@[simp] theorem countTick_mem (s : State) : (countTick s).mem = s.mem := rfl
@[simp] theorem countTick_rm (s : State) : (countTick s).rm = s.rm := rfl
@[simp] theorem countTick_draws (s : State) : (countTick s).draws = s.draws := rfl
@[simp] theorem countTick_events (s : State) : (countTick s).events = s.events := rfl
@[simp] theorem countTick_inputs (s : State) : (countTick s).inputs = s.inputs := rfl
@[simp] theorem countTick_buf (s : State) (c : Fin 8) : (countTick s).buf c = s.buf c := buf_congr _ _ (by simp) c
@[simp] theorem countTick_hasBuf (s : State) (c : Fin 8) : (countTick s).hasBuf c = s.hasBuf c := hasBuf_congr _ _ (by simp) c

/-! #### `lineFiring` -/
@[simp] theorem lineFiring_params (s : State) : (lineFiring s).params = s.params := by unfold lineFiring; dsimp only; split <;> [skip; split] <;> rfl
@[simp] theorem lineFiring_mode (s : State) : (lineFiring s).mode = s.mode := by unfold lineFiring; dsimp only; split <;> [skip; split] <;> rfl
@[simp] theorem lineFiring_ctl (s : State) : (lineFiring s).ctl = s.ctl := by unfold lineFiring; dsimp only; split <;> [skip; split] <;> rfl
@[simp] theorem lineFiring_err (s : State) : (lineFiring s).err = s.err := by unfold lineFiring; dsimp only; split <;> [skip; split] <;> rfl
@[simp] theorem lineFiring_ln (s : State) : (lineFiring s).ln = s.ln := by unfold lineFiring; dsimp only; split <;> [skip; split] <;> rfl
@[simp] theorem lineFiring_xfer (s : State) : (lineFiring s).xfer = s.xfer := by unfold lineFiring; dsimp only; split <;> [skip; split] <;> rfl
@[simp] theorem lineFiring_bufs (s : State) : (lineFiring s).bufs = s.bufs := by unfold lineFiring; dsimp only; split <;> [skip; split] <;> rfl
@[simp] theorem lineFiring_mem (s : State) : (lineFiring s).mem = s.mem := by unfold lineFiring; dsimp only; split <;> [skip; split] <;> rfl
@[simp] theorem lineFiring_rm (s : State) : (lineFiring s).rm = s.rm := by unfold lineFiring; dsimp only; split <;> [skip; split] <;> rfl
@[simp] theorem lineFiring_draws (s : State) : (lineFiring s).draws = s.draws := by unfold lineFiring; dsimp only; split <;> [skip; split] <;> rfl
@[simp] theorem lineFiring_events (s : State) : (lineFiring s).events = s.events := by unfold lineFiring; dsimp only; split <;> [skip; split] <;> rfl
@[simp] theorem lineFiring_inputs (s : State) : (lineFiring s).inputs = s.inputs := by unfold lineFiring; dsimp only; split <;> [skip; split] <;> rfl
@[simp] theorem lineFiring_buf (s : State) (c : Fin 8) : (lineFiring s).buf c = s.buf c := buf_congr _ _ (by simp) c
@[simp] theorem lineFiring_hasBuf (s : State) (c : Fin 8) : (lineFiring s).hasBuf c = s.hasBuf c := hasBuf_congr _ _ (by simp) c

/-! #### `shockFiring` -/
@[simp] theorem shockFiring_params (s : State) : (shockFiring s).params = s.params := by unfold shockFiring; split <;> rfl
@[simp] theorem shockFiring_mode (s : State) : (shockFiring s).mode = s.mode := by unfold shockFiring; split <;> rfl
@[simp] theorem shockFiring_ctl (s : State) : (shockFiring s).ctl = s.ctl := by unfold shockFiring; split <;> rfl
@[simp] theorem shockFiring_err (s : State) : (shockFiring s).err = s.err := by unfold shockFiring; split <;> rfl
@[simp] theorem shockFiring_ln (s : State) : (shockFiring s).ln = s.ln := by unfold shockFiring; split <;> rfl
@[simp] theorem shockFiring_xfer (s : State) : (shockFiring s).xfer = s.xfer := by unfold shockFiring; split <;> rfl
@[simp] theorem shockFiring_bufs (s : State) : (shockFiring s).bufs = s.bufs := by unfold shockFiring; split <;> rfl
@[simp] theorem shockFiring_mem (s : State) : (shockFiring s).mem = s.mem := by unfold shockFiring; split <;> rfl
@[simp] theorem shockFiring_rm (s : State) : (shockFiring s).rm = s.rm := by unfold shockFiring; split <;> rfl
@[simp] theorem shockFiring_draws (s : State) : (shockFiring s).draws = s.draws := by unfold shockFiring; split <;> rfl
@[simp] theorem shockFiring_events (s : State) : (shockFiring s).events = s.events := by unfold shockFiring; split <;> rfl
@[simp] theorem shockFiring_inputs (s : State) : (shockFiring s).inputs = s.inputs := by unfold shockFiring; split <;> rfl
@[simp] theorem shockFiring_buf (s : State) (c : Fin 8) : (shockFiring s).buf c = s.buf c := buf_congr _ _ (by simp) c
@[simp] theorem shockFiring_hasBuf (s : State) (c : Fin 8) : (shockFiring s).hasBuf c = s.hasBuf c := hasBuf_congr _ _ (by simp) c

/-! #### `tickTimers` -/
@[simp] theorem tickTimers_params (s : State) : (tickTimers s).params = s.params := by unfold tickTimers; split <;> simp
@[simp] theorem tickTimers_mode (s : State) : (tickTimers s).mode = s.mode := by unfold tickTimers; split <;> simp
@[simp] theorem tickTimers_ctl (s : State) : (tickTimers s).ctl = s.ctl := by unfold tickTimers; split <;> simp
@[simp] theorem tickTimers_err (s : State) : (tickTimers s).err = s.err := by unfold tickTimers; split <;> simp
@[simp] theorem tickTimers_ln (s : State) : (tickTimers s).ln = s.ln := by unfold tickTimers; split <;> simp
@[simp] theorem tickTimers_xfer (s : State) : (tickTimers s).xfer = s.xfer := by unfold tickTimers; split <;> simp
@[simp] theorem tickTimers_bufs (s : State) : (tickTimers s).bufs = s.bufs := by unfold tickTimers; split <;> simp
@[simp] theorem tickTimers_mem (s : State) : (tickTimers s).mem = s.mem := by unfold tickTimers; split <;> simp
@[simp] theorem tickTimers_rm (s : State) : (tickTimers s).rm = s.rm := by unfold tickTimers; split <;> simp
@[simp] theorem tickTimers_draws (s : State) : (tickTimers s).draws = s.draws := by unfold tickTimers; split <;> simp
@[simp] theorem tickTimers_events (s : State) : (tickTimers s).events = s.events := by unfold tickTimers; split <;> simp
@[simp] theorem tickTimers_inputs (s : State) : (tickTimers s).inputs = s.inputs := by unfold tickTimers; split <;> simp
@[simp] theorem tickTimers_buf (s : State) (c : Fin 8) : (tickTimers s).buf c = s.buf c := buf_congr _ _ (by simp) c
@[simp] theorem tickTimers_hasBuf (s : State) (c : Fin 8) : (tickTimers s).hasBuf c = s.hasBuf c := hasBuf_congr _ _ (by simp) c

/-! #### `startVideo` -/
@[simp] theorem startVideo_params (s : State) : (startVideo s).params = s.params := by unfold startVideo; split <;> rfl
@[simp] theorem startVideo_mode (s : State) : (startVideo s).mode = s.mode := by unfold startVideo; split <;> rfl
@[simp] theorem startVideo_ctl (s : State) : (startVideo s).ctl = s.ctl := by unfold startVideo; split <;> rfl
@[simp] theorem startVideo_err (s : State) : (startVideo s).err = s.err := by unfold startVideo; split <;> rfl
@[simp] theorem startVideo_tmr (s : State) : (startVideo s).tmr = s.tmr := by unfold startVideo; split <;> rfl
@[simp] theorem startVideo_ln (s : State) : (startVideo s).ln = s.ln := by unfold startVideo; split <;> rfl
@[simp] theorem startVideo_bufs (s : State) : (startVideo s).bufs = s.bufs := by unfold startVideo; split <;> rfl
@[simp] theorem startVideo_mem (s : State) : (startVideo s).mem = s.mem := by unfold startVideo; split <;> rfl
@[simp] theorem startVideo_rm (s : State) : (startVideo s).rm = s.rm := by unfold startVideo; split <;> rfl
@[simp] theorem startVideo_draws (s : State) : (startVideo s).draws = s.draws := by unfold startVideo; split <;> rfl
@[simp] theorem startVideo_inputs (s : State) : (startVideo s).inputs = s.inputs := by unfold startVideo; split <;> rfl
@[simp] theorem startVideo_buf (s : State) (c : Fin 8) : (startVideo s).buf c = s.buf c := buf_congr _ _ (by simp) c
@[simp] theorem startVideo_hasBuf (s : State) (c : Fin 8) : (startVideo s).hasBuf c = s.hasBuf c := hasBuf_congr _ _ (by simp) c

/-! #### `endVideo` -/
@[simp] theorem endVideo_params (s : State) : (endVideo s).params = s.params := by unfold endVideo; split <;> rfl
@[simp] theorem endVideo_mode (s : State) : (endVideo s).mode = s.mode := by unfold endVideo; split <;> rfl
@[simp] theorem endVideo_ctl (s : State) : (endVideo s).ctl = s.ctl := by unfold endVideo; split <;> rfl
@[simp] theorem endVideo_err (s : State) : (endVideo s).err = s.err := by unfold endVideo; split <;> rfl
@[simp] theorem endVideo_tmr (s : State) : (endVideo s).tmr = s.tmr := by unfold endVideo; split <;> rfl
@[simp] theorem endVideo_ln (s : State) : (endVideo s).ln = s.ln := by unfold endVideo; split <;> rfl
@[simp] theorem endVideo_mem (s : State) : (endVideo s).mem = s.mem := by unfold endVideo; split <;> rfl
@[simp] theorem endVideo_rm (s : State) : (endVideo s).rm = s.rm := by unfold endVideo; split <;> rfl
@[simp] theorem endVideo_draws (s : State) : (endVideo s).draws = s.draws := by unfold endVideo; split <;> rfl
@[simp] theorem endVideo_inputs (s : State) : (endVideo s).inputs = s.inputs := by unfold endVideo; split <;> rfl
@[simp] theorem endVideo_hasBuf (s : State) (c : Fin 8) : (endVideo s).hasBuf c = s.hasBuf c := hasBuf_congr _ _ (by simp) c

/-! #### `moveLine` -/
@[simp] theorem moveLine_params (p : Progress) (s : State) : (moveLine p s).params = s.params := rfl
@[simp] theorem moveLine_mode (p : Progress) (s : State) : (moveLine p s).mode = s.mode := rfl
@[simp] theorem moveLine_ctl (p : Progress) (s : State) : (moveLine p s).ctl = s.ctl := rfl
@[simp] theorem moveLine_err (p : Progress) (s : State) : (moveLine p s).err = s.err := rfl
@[simp] theorem moveLine_tmr (p : Progress) (s : State) : (moveLine p s).tmr = s.tmr := rfl
@[simp] theorem moveLine_xfer (p : Progress) (s : State) : (moveLine p s).xfer = s.xfer := rfl
@[simp] theorem moveLine_bufs (p : Progress) (s : State) : (moveLine p s).bufs = s.bufs := rfl
@[simp] theorem moveLine_mem (p : Progress) (s : State) : (moveLine p s).mem = s.mem := rfl
@[simp] theorem moveLine_rm (p : Progress) (s : State) : (moveLine p s).rm = s.rm := rfl
@[simp] theorem moveLine_draws (p : Progress) (s : State) : (moveLine p s).draws = s.draws := rfl
@[simp] theorem moveLine_events (p : Progress) (s : State) : (moveLine p s).events = s.events := rfl
@[simp] theorem moveLine_inputs (p : Progress) (s : State) : (moveLine p s).inputs = s.inputs := rfl
@[simp] theorem moveLine_buf (p : Progress) (s : State) (c : Fin 8) : (moveLine p s).buf c = s.buf c := buf_congr _ _ (by simp) c
@[simp] theorem moveLine_hasBuf (p : Progress) (s : State) (c : Fin 8) : (moveLine p s).hasBuf c = s.hasBuf c := hasBuf_congr _ _ (by simp) c

/-! #### `signalFrame` -/
@[simp] theorem signalFrame_params (p : Progress) (s : State) : (signalFrame p s).params = s.params := by unfold signalFrame; split <;> rfl
@[simp] theorem signalFrame_mode (p : Progress) (s : State) : (signalFrame p s).mode = s.mode := by unfold signalFrame; split <;> rfl
@[simp] theorem signalFrame_ctl (p : Progress) (s : State) : (signalFrame p s).ctl = s.ctl := by unfold signalFrame; split <;> rfl
@[simp] theorem signalFrame_err (p : Progress) (s : State) : (signalFrame p s).err = s.err := by unfold signalFrame; split <;> rfl
@[simp] theorem signalFrame_tmr (p : Progress) (s : State) : (signalFrame p s).tmr = s.tmr := by unfold signalFrame; split <;> rfl
@[simp] theorem signalFrame_ln (p : Progress) (s : State) : (signalFrame p s).ln = s.ln := by unfold signalFrame; split <;> rfl
@[simp] theorem signalFrame_xfer (p : Progress) (s : State) : (signalFrame p s).xfer = s.xfer := by unfold signalFrame; split <;> rfl
@[simp] theorem signalFrame_bufs (p : Progress) (s : State) : (signalFrame p s).bufs = s.bufs := by unfold signalFrame; split <;> rfl
@[simp] theorem signalFrame_mem (p : Progress) (s : State) : (signalFrame p s).mem = s.mem := by unfold signalFrame; split <;> rfl
@[simp] theorem signalFrame_rm (p : Progress) (s : State) : (signalFrame p s).rm = s.rm := by unfold signalFrame; split <;> rfl
@[simp] theorem signalFrame_draws (p : Progress) (s : State) : (signalFrame p s).draws = s.draws := by unfold signalFrame; split <;> rfl
@[simp] theorem signalFrame_inputs (p : Progress) (s : State) : (signalFrame p s).inputs = s.inputs := by unfold signalFrame; split <;> rfl
@[simp] theorem signalFrame_buf (p : Progress) (s : State) (c : Fin 8) : (signalFrame p s).buf c = s.buf c := buf_congr _ _ (by simp) c
@[simp] theorem signalFrame_hasBuf (p : Progress) (s : State) (c : Fin 8) : (signalFrame p s).hasBuf c = s.hasBuf c := hasBuf_congr _ _ (by simp) c

/-! #### `withdrawStale` -/
@[simp] theorem withdrawStale_params (s : State) : (withdrawStale s).params = s.params := rfl
@[simp] theorem withdrawStale_mode (s : State) : (withdrawStale s).mode = s.mode := rfl
@[simp] theorem withdrawStale_ctl (s : State) : (withdrawStale s).ctl = s.ctl := rfl
@[simp] theorem withdrawStale_err (s : State) : (withdrawStale s).err = s.err := rfl
@[simp] theorem withdrawStale_tmr (s : State) : (withdrawStale s).tmr = s.tmr := rfl
@[simp] theorem withdrawStale_ln (s : State) : (withdrawStale s).ln = s.ln := rfl
@[simp] theorem withdrawStale_xfer (s : State) : (withdrawStale s).xfer = s.xfer := rfl
@[simp] theorem withdrawStale_mem (s : State) : (withdrawStale s).mem = s.mem := rfl
@[simp] theorem withdrawStale_draws (s : State) : (withdrawStale s).draws = s.draws := rfl
@[simp] theorem withdrawStale_events (s : State) : (withdrawStale s).events = s.events := rfl
@[simp] theorem withdrawStale_inputs (s : State) : (withdrawStale s).inputs = s.inputs := rfl
@[simp] theorem withdrawStale_hasBuf (s : State) (c : Fin 8) : (withdrawStale s).hasBuf c = s.hasBuf c := hasBuf_congr _ _ (by simp) c

/-! #### `enterLine` -/
@[simp] theorem enterLine_params (s : State) : (enterLine s).params = s.params := by simp [enterLine]
@[simp] theorem enterLine_mode (s : State) : (enterLine s).mode = s.mode := by simp [enterLine]
@[simp] theorem enterLine_ctl (s : State) : (enterLine s).ctl = s.ctl := by simp [enterLine]
@[simp] theorem enterLine_err (s : State) : (enterLine s).err = s.err := by simp [enterLine]
@[simp] theorem enterLine_tmr (s : State) : (enterLine s).tmr = s.tmr := by simp [enterLine]
@[simp] theorem enterLine_xfer (s : State) : (enterLine s).xfer = s.xfer := by simp [enterLine]
@[simp] theorem enterLine_mem (s : State) : (enterLine s).mem = s.mem := by simp [enterLine]
@[simp] theorem enterLine_draws (s : State) : (enterLine s).draws = s.draws := by simp [enterLine]
@[simp] theorem enterLine_inputs (s : State) : (enterLine s).inputs = s.inputs := by simp [enterLine]
@[simp] theorem enterLine_hasBuf (s : State) (c : Fin 8) : (enterLine s).hasBuf c = s.hasBuf c := hasBuf_congr _ _ (by simp) c

/-! #### `armLine` -/
@[simp] theorem armLine_params (s : State) : (armLine s).params = s.params := by unfold armLine; split <;> [skip; split] <;> rfl
@[simp] theorem armLine_mode (s : State) : (armLine s).mode = s.mode := by unfold armLine; split <;> [skip; split] <;> rfl
@[simp] theorem armLine_ctl (s : State) : (armLine s).ctl = s.ctl := by unfold armLine; split <;> [skip; split] <;> rfl
@[simp] theorem armLine_err (s : State) : (armLine s).err = s.err := by unfold armLine; split <;> [skip; split] <;> rfl
@[simp] theorem armLine_tmr (s : State) : (armLine s).tmr = s.tmr := by unfold armLine; split <;> [skip; split] <;> rfl
@[simp] theorem armLine_ln (s : State) : (armLine s).ln = s.ln := by unfold armLine; split <;> [skip; split] <;> rfl
@[simp] theorem armLine_mem (s : State) : (armLine s).mem = s.mem := by unfold armLine; split <;> [skip; split] <;> rfl
@[simp] theorem armLine_rm (s : State) : (armLine s).rm = s.rm := by unfold armLine; split <;> [skip; split] <;> rfl
@[simp] theorem armLine_draws (s : State) : (armLine s).draws = s.draws := by unfold armLine; split <;> [skip; split] <;> rfl
@[simp] theorem armLine_inputs (s : State) : (armLine s).inputs = s.inputs := by unfold armLine; split <;> [skip; split] <;> rfl
@[simp] theorem armLine_hasBuf (s : State) (c : Fin 8) : (armLine s).hasBuf c = s.hasBuf c := hasBuf_congr _ _ (by simp) c

/-! #### `requestNext` -/
@[simp] theorem requestNext_params (s : State) : (requestNext s).params = s.params := by unfold requestNext; dsimp only; split <;> rfl
@[simp] theorem requestNext_mode (s : State) : (requestNext s).mode = s.mode := by unfold requestNext; dsimp only; split <;> rfl
@[simp] theorem requestNext_ctl (s : State) : (requestNext s).ctl = s.ctl := by unfold requestNext; dsimp only; split <;> rfl
@[simp] theorem requestNext_err (s : State) : (requestNext s).err = s.err := by unfold requestNext; dsimp only; split <;> rfl
@[simp] theorem requestNext_tmr (s : State) : (requestNext s).tmr = s.tmr := by unfold requestNext; dsimp only; split <;> rfl
@[simp] theorem requestNext_ln (s : State) : (requestNext s).ln = s.ln := by unfold requestNext; dsimp only; split <;> rfl
@[simp] theorem requestNext_xfer (s : State) : (requestNext s).xfer = s.xfer := by unfold requestNext; dsimp only; split <;> rfl
@[simp] theorem requestNext_bufs (s : State) : (requestNext s).bufs = s.bufs := by unfold requestNext; dsimp only; split <;> rfl
@[simp] theorem requestNext_mem (s : State) : (requestNext s).mem = s.mem := by unfold requestNext; dsimp only; split <;> rfl
@[simp] theorem requestNext_draws (s : State) : (requestNext s).draws = s.draws := by unfold requestNext; dsimp only; split <;> rfl
@[simp] theorem requestNext_events (s : State) : (requestNext s).events = s.events := by unfold requestNext; dsimp only; split <;> rfl
@[simp] theorem requestNext_inputs (s : State) : (requestNext s).inputs = s.inputs := by unfold requestNext; dsimp only; split <;> rfl
@[simp] theorem requestNext_buf (s : State) (c : Fin 8) : (requestNext s).buf c = s.buf c := buf_congr _ _ (by simp) c
@[simp] theorem requestNext_hasBuf (s : State) (c : Fin 8) : (requestNext s).hasBuf c = s.hasBuf c := hasBuf_congr _ _ (by simp) c

/-! #### `accountMiss` -/
@[simp] theorem accountMiss_params (m : Bool) (k : Nat) (a : Bool) (s : State) : (accountMiss m k a s).params = s.params := rfl
@[simp] theorem accountMiss_mode (m : Bool) (k : Nat) (a : Bool) (s : State) : (accountMiss m k a s).mode = s.mode := rfl
@[simp] theorem accountMiss_ctl (m : Bool) (k : Nat) (a : Bool) (s : State) : (accountMiss m k a s).ctl = s.ctl := rfl
@[simp] theorem accountMiss_err (m : Bool) (k : Nat) (a : Bool) (s : State) : (accountMiss m k a s).err = s.err := rfl
@[simp] theorem accountMiss_tmr (m : Bool) (k : Nat) (a : Bool) (s : State) : (accountMiss m k a s).tmr = s.tmr := rfl
@[simp] theorem accountMiss_xfer (m : Bool) (k : Nat) (a : Bool) (s : State) : (accountMiss m k a s).xfer = s.xfer := rfl
@[simp] theorem accountMiss_bufs (m : Bool) (k : Nat) (a : Bool) (s : State) : (accountMiss m k a s).bufs = s.bufs := rfl
@[simp] theorem accountMiss_mem (m : Bool) (k : Nat) (a : Bool) (s : State) : (accountMiss m k a s).mem = s.mem := rfl
@[simp] theorem accountMiss_rm (m : Bool) (k : Nat) (a : Bool) (s : State) : (accountMiss m k a s).rm = s.rm := rfl
@[simp] theorem accountMiss_draws (m : Bool) (k : Nat) (a : Bool) (s : State) : (accountMiss m k a s).draws = s.draws := rfl
@[simp] theorem accountMiss_events (m : Bool) (k : Nat) (a : Bool) (s : State) : (accountMiss m k a s).events = s.events := rfl
@[simp] theorem accountMiss_inputs (m : Bool) (k : Nat) (a : Bool) (s : State) : (accountMiss m k a s).inputs = s.inputs := rfl
@[simp] theorem accountMiss_buf (m : Bool) (k : Nat) (a : Bool) (s : State) (c : Fin 8) : (accountMiss m k a s).buf c = s.buf c := buf_congr _ _ (by simp) c
@[simp] theorem accountMiss_hasBuf (m : Bool) (k : Nat) (a : Bool) (s : State) (c : Fin 8) : (accountMiss m k a s).hasBuf c = s.hasBuf c := hasBuf_congr _ _ (by simp) c

/-! #### `settleService` -/
@[simp] theorem settleService_params (a : Bool) (s : State) : (settleService a s).params = s.params := rfl
@[simp] theorem settleService_mode (a : Bool) (s : State) : (settleService a s).mode = s.mode := rfl
@[simp] theorem settleService_err (a : Bool) (s : State) : (settleService a s).err = s.err := rfl
@[simp] theorem settleService_ln (a : Bool) (s : State) : (settleService a s).ln = s.ln := rfl
@[simp] theorem settleService_xfer (a : Bool) (s : State) : (settleService a s).xfer = s.xfer := rfl
@[simp] theorem settleService_bufs (a : Bool) (s : State) : (settleService a s).bufs = s.bufs := rfl
@[simp] theorem settleService_mem (a : Bool) (s : State) : (settleService a s).mem = s.mem := rfl
@[simp] theorem settleService_rm (a : Bool) (s : State) : (settleService a s).rm = s.rm := rfl
@[simp] theorem settleService_draws (a : Bool) (s : State) : (settleService a s).draws = s.draws := rfl
@[simp] theorem settleService_events (a : Bool) (s : State) : (settleService a s).events = s.events := rfl
@[simp] theorem settleService_inputs (a : Bool) (s : State) : (settleService a s).inputs = s.inputs := rfl
@[simp] theorem settleService_buf (a : Bool) (s : State) (c : Fin 8) : (settleService a s).buf c = s.buf c := buf_congr _ _ (by simp) c
@[simp] theorem settleService_hasBuf (a : Bool) (s : State) (c : Fin 8) : (settleService a s).hasBuf c = s.hasBuf c := hasBuf_congr _ _ (by simp) c

/-! #### `requestResync` -/
@[simp] theorem requestResync_params (s : State) : (requestResync s).params = s.params := rfl
@[simp] theorem requestResync_mode (s : State) : (requestResync s).mode = s.mode := rfl
@[simp] theorem requestResync_err (s : State) : (requestResync s).err = s.err := rfl
@[simp] theorem requestResync_xfer (s : State) : (requestResync s).xfer = s.xfer := rfl
@[simp] theorem requestResync_bufs (s : State) : (requestResync s).bufs = s.bufs := rfl
@[simp] theorem requestResync_mem (s : State) : (requestResync s).mem = s.mem := rfl
@[simp] theorem requestResync_rm (s : State) : (requestResync s).rm = s.rm := rfl
@[simp] theorem requestResync_draws (s : State) : (requestResync s).draws = s.draws := rfl
@[simp] theorem requestResync_events (s : State) : (requestResync s).events = s.events := rfl
@[simp] theorem requestResync_inputs (s : State) : (requestResync s).inputs = s.inputs := rfl
@[simp] theorem requestResync_buf (s : State) (c : Fin 8) : (requestResync s).buf c = s.buf c := buf_congr _ _ (by simp) c
@[simp] theorem requestResync_hasBuf (s : State) (c : Fin 8) : (requestResync s).hasBuf c = s.hasBuf c := hasBuf_congr _ _ (by simp) c

/-! #### `finishFill` -/
@[simp] theorem finishFill_params (vr : Word) (s : State) : (finishFill vr s).params = s.params := by unfold finishFill; dsimp only; split <;> split <;> rfl
@[simp] theorem finishFill_mode (vr : Word) (s : State) : (finishFill vr s).mode = s.mode := by unfold finishFill; dsimp only; split <;> split <;> rfl
@[simp] theorem finishFill_ctl (vr : Word) (s : State) : (finishFill vr s).ctl = s.ctl := by unfold finishFill; dsimp only; split <;> split <;> rfl
@[simp] theorem finishFill_tmr (vr : Word) (s : State) : (finishFill vr s).tmr = s.tmr := by unfold finishFill; dsimp only; split <;> split <;> rfl
@[simp] theorem finishFill_ln (vr : Word) (s : State) : (finishFill vr s).ln = s.ln := by unfold finishFill; dsimp only; split <;> split <;> rfl
@[simp] theorem finishFill_xfer (vr : Word) (s : State) : (finishFill vr s).xfer = s.xfer := by unfold finishFill; dsimp only; split <;> split <;> rfl
@[simp] theorem finishFill_mem (vr : Word) (s : State) : (finishFill vr s).mem = s.mem := by unfold finishFill; dsimp only; split <;> split <;> rfl
@[simp] theorem finishFill_draws (vr : Word) (s : State) : (finishFill vr s).draws = s.draws := by unfold finishFill; dsimp only; split <;> split <;> rfl
@[simp] theorem finishFill_events (vr : Word) (s : State) : (finishFill vr s).events = s.events := by unfold finishFill; dsimp only; split <;> split <;> rfl
@[simp] theorem finishFill_inputs (vr : Word) (s : State) : (finishFill vr s).inputs = s.inputs := by unfold finishFill; dsimp only; split <;> split <;> rfl
@[simp] theorem finishFill_hasBuf (vr : Word) (s : State) (c : Fin 8) : (finishFill vr s).hasBuf c = s.hasBuf c := hasBuf_congr _ _ (by simp) c

/-! #### `rmDone` -/
@[simp] theorem rmDone_params (vr : Word) (s : State) : (rmDone vr s).params = s.params := by unfold rmDone; split <;> simp
@[simp] theorem rmDone_mode (vr : Word) (s : State) : (rmDone vr s).mode = s.mode := by unfold rmDone; split <;> simp
@[simp] theorem rmDone_ctl (vr : Word) (s : State) : (rmDone vr s).ctl = s.ctl := by unfold rmDone; split <;> simp
@[simp] theorem rmDone_tmr (vr : Word) (s : State) : (rmDone vr s).tmr = s.tmr := by unfold rmDone; split <;> simp
@[simp] theorem rmDone_ln (vr : Word) (s : State) : (rmDone vr s).ln = s.ln := by unfold rmDone; split <;> simp
@[simp] theorem rmDone_xfer (vr : Word) (s : State) : (rmDone vr s).xfer = s.xfer := by unfold rmDone; split <;> simp
@[simp] theorem rmDone_mem (vr : Word) (s : State) : (rmDone vr s).mem = s.mem := by unfold rmDone; split <;> simp
@[simp] theorem rmDone_draws (vr : Word) (s : State) : (rmDone vr s).draws = s.draws := by unfold rmDone; split <;> simp
@[simp] theorem rmDone_inputs (vr : Word) (s : State) : (rmDone vr s).inputs = s.inputs := by unfold rmDone; split <;> simp
@[simp] theorem rmDone_hasBuf (vr : Word) (s : State) (c : Fin 8) : (rmDone vr s).hasBuf c = s.hasBuf c := hasBuf_congr _ _ (by simp) c

/-! #### `startRaster` -/
@[simp] theorem startRaster_params (s : State) : (startRaster s).params = s.params := rfl
@[simp] theorem startRaster_mode (s : State) : (startRaster s).mode = s.mode := rfl
@[simp] theorem startRaster_err (s : State) : (startRaster s).err = s.err := rfl
@[simp] theorem startRaster_xfer (s : State) : (startRaster s).xfer = s.xfer := rfl
@[simp] theorem startRaster_mem (s : State) : (startRaster s).mem = s.mem := rfl
@[simp] theorem startRaster_draws (s : State) : (startRaster s).draws = s.draws := rfl
@[simp] theorem startRaster_events (s : State) : (startRaster s).events = s.events := rfl
@[simp] theorem startRaster_inputs (s : State) : (startRaster s).inputs = s.inputs := rfl
@[simp] theorem startRaster_hasBuf (s : State) (c : Fin 8) : (startRaster s).hasBuf c = s.hasBuf c := hasBuf_congr _ _ (by simp) c

/-! #### `stopTransfer` -/
@[simp] theorem stopTransfer_params (s : State) : (stopTransfer s).params = s.params := by unfold stopTransfer; dsimp only; split <;> split <;> rfl
@[simp] theorem stopTransfer_mode (s : State) : (stopTransfer s).mode = s.mode := by unfold stopTransfer; dsimp only; split <;> split <;> rfl
@[simp] theorem stopTransfer_ctl (s : State) : (stopTransfer s).ctl = s.ctl := by unfold stopTransfer; dsimp only; split <;> split <;> rfl
@[simp] theorem stopTransfer_err (s : State) : (stopTransfer s).err = s.err := by unfold stopTransfer; dsimp only; split <;> split <;> rfl
@[simp] theorem stopTransfer_tmr (s : State) : (stopTransfer s).tmr = s.tmr := by unfold stopTransfer; dsimp only; split <;> split <;> rfl
@[simp] theorem stopTransfer_ln (s : State) : (stopTransfer s).ln = s.ln := by unfold stopTransfer; dsimp only; split <;> split <;> rfl
@[simp] theorem stopTransfer_mem (s : State) : (stopTransfer s).mem = s.mem := by unfold stopTransfer; dsimp only; split <;> split <;> rfl
@[simp] theorem stopTransfer_rm (s : State) : (stopTransfer s).rm = s.rm := by unfold stopTransfer; dsimp only; split <;> split <;> rfl
@[simp] theorem stopTransfer_draws (s : State) : (stopTransfer s).draws = s.draws := by unfold stopTransfer; dsimp only; split <;> split <;> rfl
@[simp] theorem stopTransfer_inputs (s : State) : (stopTransfer s).inputs = s.inputs := by unfold stopTransfer; dsimp only; split <;> split <;> rfl
@[simp] theorem stopTransfer_hasBuf (s : State) (c : Fin 8) : (stopTransfer s).hasBuf c = s.hasBuf c := hasBuf_congr _ _ (by simp) c

/-! #### `stopRaster` -/
@[simp] theorem stopRaster_params (s : State) : (stopRaster s).params = s.params := by simp [stopRaster]
@[simp] theorem stopRaster_mode (s : State) : (stopRaster s).mode = s.mode := by simp [stopRaster]
@[simp] theorem stopRaster_err (s : State) : (stopRaster s).err = s.err := by simp [stopRaster]
@[simp] theorem stopRaster_mem (s : State) : (stopRaster s).mem = s.mem := by simp [stopRaster]
@[simp] theorem stopRaster_draws (s : State) : (stopRaster s).draws = s.draws := by simp [stopRaster]
@[simp] theorem stopRaster_inputs (s : State) : (stopRaster s).inputs = s.inputs := by simp [stopRaster]
@[simp] theorem stopRaster_hasBuf (s : State) (c : Fin 8) : (stopRaster s).hasBuf c = s.hasBuf c := hasBuf_congr _ _ (by simp) c

/-! #### `cmdConfigure` -/
@[simp] theorem cmdConfigure_params (s : State) : (cmdConfigure s).params = s.params := by unfold cmdConfigure; split <;> [skip; (split <;> [skip; split])] <;> rfl
@[simp] theorem cmdConfigure_mode (s : State) : (cmdConfigure s).mode = s.mode := by unfold cmdConfigure; split <;> [skip; (split <;> [skip; split])] <;> rfl
@[simp] theorem cmdConfigure_tmr (s : State) : (cmdConfigure s).tmr = s.tmr := by unfold cmdConfigure; split <;> [skip; (split <;> [skip; split])] <;> rfl
@[simp] theorem cmdConfigure_ln (s : State) : (cmdConfigure s).ln = s.ln := by unfold cmdConfigure; split <;> [skip; (split <;> [skip; split])] <;> rfl
@[simp] theorem cmdConfigure_xfer (s : State) : (cmdConfigure s).xfer = s.xfer := by unfold cmdConfigure; split <;> [skip; (split <;> [skip; split])] <;> rfl
@[simp] theorem cmdConfigure_bufs (s : State) : (cmdConfigure s).bufs = s.bufs := by unfold cmdConfigure; split <;> [skip; (split <;> [skip; split])] <;> rfl
@[simp] theorem cmdConfigure_mem (s : State) : (cmdConfigure s).mem = s.mem := by unfold cmdConfigure; split <;> [skip; (split <;> [skip; split])] <;> rfl
@[simp] theorem cmdConfigure_rm (s : State) : (cmdConfigure s).rm = s.rm := by unfold cmdConfigure; split <;> [skip; (split <;> [skip; split])] <;> rfl
@[simp] theorem cmdConfigure_draws (s : State) : (cmdConfigure s).draws = s.draws := by unfold cmdConfigure; split <;> [skip; (split <;> [skip; split])] <;> rfl
@[simp] theorem cmdConfigure_events (s : State) : (cmdConfigure s).events = s.events := by unfold cmdConfigure; split <;> [skip; (split <;> [skip; split])] <;> rfl
@[simp] theorem cmdConfigure_inputs (s : State) : (cmdConfigure s).inputs = s.inputs := by unfold cmdConfigure; split <;> [skip; (split <;> [skip; split])] <;> rfl
@[simp] theorem cmdConfigure_buf (s : State) (c : Fin 8) : (cmdConfigure s).buf c = s.buf c := buf_congr _ _ (by simp) c
@[simp] theorem cmdConfigure_hasBuf (s : State) (c : Fin 8) : (cmdConfigure s).hasBuf c = s.hasBuf c := hasBuf_congr _ _ (by simp) c

/-! #### `errWrite` -/
@[simp] theorem errWrite_params (d : Word) (s : State) : (errWrite d s).params = s.params := rfl
@[simp] theorem errWrite_mode (d : Word) (s : State) : (errWrite d s).mode = s.mode := rfl
@[simp] theorem errWrite_ctl (d : Word) (s : State) : (errWrite d s).ctl = s.ctl := rfl
@[simp] theorem errWrite_tmr (d : Word) (s : State) : (errWrite d s).tmr = s.tmr := rfl
@[simp] theorem errWrite_ln (d : Word) (s : State) : (errWrite d s).ln = s.ln := rfl
@[simp] theorem errWrite_xfer (d : Word) (s : State) : (errWrite d s).xfer = s.xfer := rfl
@[simp] theorem errWrite_bufs (d : Word) (s : State) : (errWrite d s).bufs = s.bufs := rfl
@[simp] theorem errWrite_mem (d : Word) (s : State) : (errWrite d s).mem = s.mem := rfl
@[simp] theorem errWrite_rm (d : Word) (s : State) : (errWrite d s).rm = s.rm := rfl
@[simp] theorem errWrite_draws (d : Word) (s : State) : (errWrite d s).draws = s.draws := rfl
@[simp] theorem errWrite_events (d : Word) (s : State) : (errWrite d s).events = s.events := rfl
@[simp] theorem errWrite_inputs (d : Word) (s : State) : (errWrite d s).inputs = s.inputs := rfl
@[simp] theorem errWrite_buf (d : Word) (s : State) (c : Fin 8) : (errWrite d s).buf c = s.buf c := buf_congr _ _ (by simp) c
@[simp] theorem errWrite_hasBuf (d : Word) (s : State) (c : Fin 8) : (errWrite d s).hasBuf c = s.hasBuf c := hasBuf_congr _ _ (by simp) c

/-! #### `modeWrite` -/
@[simp] theorem modeWrite_params (r : HostReg) (d : Word) (s : State) : (modeWrite r d s).params = s.params := by unfold modeWrite; split <;> rfl
@[simp] theorem modeWrite_tmr (r : HostReg) (d : Word) (s : State) : (modeWrite r d s).tmr = s.tmr := by unfold modeWrite; split <;> rfl
@[simp] theorem modeWrite_ln (r : HostReg) (d : Word) (s : State) : (modeWrite r d s).ln = s.ln := by unfold modeWrite; split <;> rfl
@[simp] theorem modeWrite_xfer (r : HostReg) (d : Word) (s : State) : (modeWrite r d s).xfer = s.xfer := by unfold modeWrite; split <;> rfl
@[simp] theorem modeWrite_bufs (r : HostReg) (d : Word) (s : State) : (modeWrite r d s).bufs = s.bufs := by unfold modeWrite; split <;> rfl
@[simp] theorem modeWrite_mem (r : HostReg) (d : Word) (s : State) : (modeWrite r d s).mem = s.mem := by unfold modeWrite; split <;> rfl
@[simp] theorem modeWrite_rm (r : HostReg) (d : Word) (s : State) : (modeWrite r d s).rm = s.rm := by unfold modeWrite; split <;> rfl
@[simp] theorem modeWrite_draws (r : HostReg) (d : Word) (s : State) : (modeWrite r d s).draws = s.draws := by unfold modeWrite; split <;> rfl
@[simp] theorem modeWrite_events (r : HostReg) (d : Word) (s : State) : (modeWrite r d s).events = s.events := by unfold modeWrite; split <;> rfl
@[simp] theorem modeWrite_inputs (r : HostReg) (d : Word) (s : State) : (modeWrite r d s).inputs = s.inputs := by unfold modeWrite; split <;> rfl
@[simp] theorem modeWrite_buf (r : HostReg) (d : Word) (s : State) (c : Fin 8) : (modeWrite r d s).buf c = s.buf c := buf_congr _ _ (by simp) c
@[simp] theorem modeWrite_hasBuf (r : HostReg) (d : Word) (s : State) (c : Fin 8) : (modeWrite r d s).hasBuf c = s.hasBuf c := hasBuf_congr _ _ (by simp) c

/-! #### `finishRead` -/
@[simp] theorem finishRead_params (v : Word) (s : State) : (finishRead v s).params = s.params := by simp [finishRead]
@[simp] theorem finishRead_mode (v : Word) (s : State) : (finishRead v s).mode = s.mode := by simp [finishRead]
@[simp] theorem finishRead_ctl (v : Word) (s : State) : (finishRead v s).ctl = s.ctl := by simp [finishRead]
@[simp] theorem finishRead_err (v : Word) (s : State) : (finishRead v s).err = s.err := by simp [finishRead]
@[simp] theorem finishRead_tmr (v : Word) (s : State) : (finishRead v s).tmr = s.tmr := by simp [finishRead]
@[simp] theorem finishRead_ln (v : Word) (s : State) : (finishRead v s).ln = s.ln := by simp [finishRead]
@[simp] theorem finishRead_xfer (v : Word) (s : State) : (finishRead v s).xfer = s.xfer := by simp [finishRead]
@[simp] theorem finishRead_mem (v : Word) (s : State) : (finishRead v s).mem = s.mem := by simp [finishRead]
@[simp] theorem finishRead_draws (v : Word) (s : State) : (finishRead v s).draws = s.draws := by simp [finishRead]
@[simp] theorem finishRead_inputs (v : Word) (s : State) : (finishRead v s).inputs = s.inputs := by simp [finishRead]
@[simp] theorem finishRead_hasBuf (v : Word) (s : State) (c : Fin 8) : (finishRead v s).hasBuf c = s.hasBuf c := hasBuf_congr _ _ (by simp) c

end Sys2Proof.Machine
end

