-- ==== Sys2Proof/Laws/Ops.lean ====
section
/-! SUPPORT. For each shared operation, what it can do: the facts later proofs cite instead of unfolding it. -/

namespace Sys2Proof.Machine

/-! ### The least buffer with a property -/

theorem mem_bufIndices : ∀ c : Fin 8, c ∈ bufIndices := by decide

theorem firstBuf_none (p : Buf → Bool) (s : State) :
    firstBuf p s = none ↔ ∀ c : Fin 8, s.hasBuf c = true → p (s.buf c) = false := by
  simp only [firstBuf, List.find?_eq_none, Bool.and_eq_true, not_and, Bool.not_eq_true]
  constructor
  · intro h c hc
    exact h c (mem_bufIndices c) hc
  · exact fun h c _ hc => h c hc

theorem firstBuf_some (p : Buf → Bool) (s : State) (b : Fin 8) (h : firstBuf p s = some b) :
    s.hasBuf b = true ∧ p (s.buf b) = true := by
  simpa using List.find?_some h

/-- The buffer found is the least one. -/
theorem firstBuf_least (p : Buf → Bool) (s : State) (b c : Fin 8) (h : firstBuf p s = some b) (hc : c < b)
    (he : s.hasBuf c = true) : p (s.buf c) = false := by
  have hp : ∀ q : Fin 8 → Bool, bufIndices.find? q = some b → q c = false := by
    intro q hq
    simp only [bufIndices, List.find?_cons, List.find?_nil] at hq
    fin_cases c <;> fin_cases b <;> simp_all <;> (repeat' split at hq) <;> simp_all
  simpa [he] using hp _ h

/-- A property that one existing buffer has and no lesser existing one has finds that buffer. -/
theorem firstBuf_eq_some (p : Buf → Bool) (s : State) (b : Fin 8) (hb : s.hasBuf b = true) (hp : p (s.buf b) = true)
    (hl : ∀ c < b, s.hasBuf c = true → p (s.buf c) = false) : firstBuf p s = some b := by
  cases h : firstBuf p s with
  | none => simp [(firstBuf_none p s).mp h b hb] at hp
  | some c =>
    obtain ⟨h1, h2⟩ := firstBuf_some p s c h
    rcases lt_trichotomy c b with hlt | rfl | hgt
    · simp [hl c hlt h1] at h2
    · rfl
    · simp [firstBuf_least p s c b h hgt hb] at hp

/-! ### Dispatch -/

/-- Dispatch hands the waiting request to a free buffer, or changes nothing. -/
theorem dispatchFill_cases (s : State) :
    dispatchFill s = s ∨
      ∃ b : Fin 8, s.rm.pend = true ∧ s.rm.busy = false ∧ s.hasBuf b = true ∧ (s.buf b).own = .free ∧
        dispatchFill s = dispatchTo b s := by
  unfold dispatchFill
  split
  · rename_i h
    simp only [Bool.and_eq_true, Bool.not_eq_true'] at h
    split
    · rename_i b hb
      obtain ⟨h1, h2⟩ := firstBuf_some _ _ _ hb
      exact .inr ⟨b, h.1, h.2, h1, by simpa using h2, rfl⟩
    · exact .inl rfl
  · exact .inl rfl

theorem dispatchFill_of_no_request (s : State) (h : s.rm.pend = false) : dispatchFill s = s := by
  simp [dispatchFill, h]

theorem dispatchFill_of_busy (s : State) (h : s.rm.busy = true) : dispatchFill s = s := by
  simp [dispatchFill, h]

/-- Dispatch does not touch the storage or the draw, so no byte. -/
@[simp] theorem readByte_dispatchFill (s : State) (b : Fin 8) (o : Nat) :
    readByte (dispatchFill s) b o = readByte s b o := by simp [readByte]

/-! ### Errors -/

/-- `raise` sets its own bit and keeps the others. -/
theorem errBit_raise (e f : ErrBit) (s : State) : errBit (raise e s) f = (decide (f = e) || errBit s f) := by
  cases e <;> cases f <;> rfl

theorem errBit_congr (s t : State) (h : s.err = t.err) (e : ErrBit) : errBit s e = errBit t e := by
  cases e <;> simp [errBit, h]

/-! ### Buffer windows -/

/-- A window access passes its checks exactly when it is aligned, inside the buffer, and the buffer is being filled. -/
theorem windowCheck_none_iff (b : Fin 8) (o : BitVec 12) (n : Size) (s : State) :
    windowCheck b o n s = none ↔
      o.toNat % n.bytes = 0 ∧ o.toNat + n.bytes ≤ s.params.bufBytes ∧ (s.buf b).own = .filling := by
  unfold windowCheck
  constructor
  · intro h
    by_cases h1 : o.toNat % n.bytes = 0
    · by_cases h2 : s.params.bufBytes < o.toNat + n.bytes
      · simp [h1, h2] at h
      · by_cases h3 : (s.buf b).own = .filling
        · exact ⟨h1, by omega, h3⟩
        · simp [h1, h2, h3] at h
    · simp [h1] at h
  · rintro ⟨h1, h2, h3⟩
    simp [h1, h3, Nat.not_lt.mpr h2]

/-- What a window write can do. -/
theorem windowWrite_cases (b : Fin 8) (o : BitVec 12) (n : Size) (d : Word) (s : State) :
    (∃ e, windowWrite b o n d s = raise e s) ∨
      (s.hasBuf b = true ∧ windowCheck b o n s = none ∧
        windowWrite b o n d s = bufWrite b o.toNat n.bytes d s) := by
  unfold windowWrite
  split
  · rename_i h
    cases hc : windowCheck b o n s with
    | none => exact .inr ⟨h, rfl, rfl⟩
    | some e => exact .inl ⟨e, rfl⟩
  · exact .inl ⟨_, rfl⟩

/-! ### Services -/

/-- What arming can do to a line: nothing, arm its buffer, or free it. -/
theorem armLine_cases (s : State) :
    (readyForLine s = none ∧ armLine s = s) ∨
    ∃ r, readyForLine s = some r ∧
      ((s.ln.region = .visible ∧ s.tmr.ltCnt.toNat < s.mode.bpEnd.toNat ∧ s.ctl.outEn = true ∧
          armLine s = emit (.dmaArm r (s.buf r).vrange)
            { setOwn r .xfer s with xfer := { xst := .armed, xbuf := r, xlen := (s.buf r).vrange } }) ∨
        (¬(s.ln.region = .visible ∧ s.tmr.ltCnt.toNat < s.mode.bpEnd.toNat ∧ s.ctl.outEn = true) ∧
          armLine s = setOwn r .free s)) := by
  unfold armLine
  cases h : readyForLine s with
  | none => exact .inl ⟨rfl, rfl⟩
  | some r =>
    refine .inr ⟨r, rfl, ?_⟩
    by_cases hc : s.ln.region = .visible ∧ s.tmr.ltCnt.toNat < s.mode.bpEnd.toNat ∧ s.ctl.outEn = true
    · exact .inl ⟨hc.1, hc.2.1, hc.2.2, by simp [hc]⟩
    · exact .inr ⟨hc, by simp [hc]⟩

/-- The buffer found for the line is ready and filled for it. -/
theorem readyForLine_some (s : State) (r : Fin 8) (h : readyForLine s = some r) :
    s.hasBuf r = true ∧ (s.buf r).own = .ready ∧ (s.buf r).tag = s.ln.seq := by
  obtain ⟨h1, h2⟩ := firstBuf_some _ _ _ h
  simp only [Bool.and_eq_true, decide_eq_true_eq] at h2
  exact ⟨h1, h2.1, h2.2⟩

/-- LTSVC answers a next state exactly when the arbiter grants it. -/
theorem execLtsvc_next (s t : State) : execLtsvc s = .next t ↔ lineServiceEnabled s = true ∧ t = lineService s := by
  unfold execLtsvc
  by_cases h : lineServiceEnabled s = true
  · rw [if_pos h]
    exact Iff.intro (fun e => ⟨h, (Host.Outcome.next.inj e).symm⟩) (fun e => by rw [e.2])
  · rw [if_neg h]
    exact Iff.intro (fun e => nomatch e) (fun e => absurd e.1 h)

/-- SASVC answers a next state exactly when the arbiter grants it. -/
theorem execSasvc_next (s t : State) : execSasvc s = .next t ↔ shockServiceEnabled s = true ∧ t = shockService s := by
  unfold execSasvc
  by_cases h : shockServiceEnabled s = true
  · rw [if_pos h]
    exact Iff.intro (fun e => ⟨h, (Host.Outcome.next.inj e).symm⟩) (fun e => by rw [e.2])
  · rw [if_neg h]
    exact Iff.intro (fun e => nomatch e) (fun e => absurd e.1 h)

/-- A step takes the operation at the head of the schedule. -/
theorem step_cons (s : State) (w : OpWord) (rest : List OpWord) (h : s.inputs = w :: rest) :
    step s = exec (decode w) (beginStep rest s) := by simp [step, h]

end Sys2Proof.Machine
end

