-- ==== Sys2Proof/Laws/PerInstr.lean ====
section
/-! SUPPORT. Facts about every operation as syntax, one lemma for each constructor of `Instr`. -/

namespace Sys2Proof.Laws

/-- The format column of spec/opcode_table.json: the operation is a command word, not a transaction word (R110). -/
def isCommand : Instr → Bool
  | .tick => false
  | .hwr _ _ _ => false
  | .hrd _ _ => false
  | .drd _ => false
  | .ltsvc => false
  | .sasvc => false
  | .rst => false
  | .periph _ => false
  | .reservedOp _ => false
  | .hwrSz3 => false
  | .hrdSz3 => false
  | .hwrId _ => false
  | .hrdId => false
  | .hwrParam _ => false
  | .hrdParam => false
  | .hwrCmd _ => false
  | .hrdCmd => false
  | .hwrStatus _ => false
  | .hrdStatus => false
  | .hwrErr _ => false
  | .hrdErr => false
  | .hwrRmReq _ => false
  | .hrdRmReq => false
  | .hwrRmDone _ => false
  | .hrdRmDone => false
  | .hwrHtim0 _ => false
  | .hrdHtim0 => false
  | .hwrHtim1 _ => false
  | .hrdHtim1 => false
  | .hwrVtim0 _ => false
  | .hrdVtim0 => false
  | .hwrVtim1 _ => false
  | .hrdVtim1 => false
  | .hwrSyncSa _ => false
  | .hrdSyncSa => false
  | .hwrSaTol _ => false
  | .hrdSaTol => false
  | .hwrLine _ => false
  | .hrdLine => false
  | .hwrFrame _ => false
  | .hrdFrame => false
  | .hwrSeq _ => false
  | .hrdSeq => false
  | .hwrCnt _ => false
  | .hrdCnt => false
  | .hwrWdog _ => false
  | .hrdWdog => false
  | .hwrTimer _ => false
  | .hrdTimer => false
  | .hwrBufstat0 _ => false
  | .hrdBufstat0 => false
  | .hwrBuftag0 _ => false
  | .hrdBuftag0 => false
  | .hwrBufline0 _ => false
  | .hrdBufline0 => false
  | .hwrBufstat1 _ => false
  | .hrdBufstat1 => false
  | .hwrBuftag1 _ => false
  | .hrdBuftag1 => false
  | .hwrBufline1 _ => false
  | .hrdBufline1 => false
  | .hwrBufstat2 _ => false
  | .hrdBufstat2 => false
  | .hwrBuftag2 _ => false
  | .hrdBuftag2 => false
  | .hwrBufline2 _ => false
  | .hrdBufline2 => false
  | .hwrBufstat3 _ => false
  | .hrdBufstat3 => false
  | .hwrBuftag3 _ => false
  | .hrdBuftag3 => false
  | .hwrBufline3 _ => false
  | .hrdBufline3 => false
  | .hwrBufstat4 _ => false
  | .hrdBufstat4 => false
  | .hwrBuftag4 _ => false
  | .hrdBuftag4 => false
  | .hwrBufline4 _ => false
  | .hrdBufline4 => false
  | .hwrBufstat5 _ => false
  | .hrdBufstat5 => false
  | .hwrBuftag5 _ => false
  | .hrdBuftag5 => false
  | .hwrBufline5 _ => false
  | .hrdBufline5 => false
  | .hwrBufstat6 _ => false
  | .hrdBufstat6 => false
  | .hwrBuftag6 _ => false
  | .hrdBuftag6 => false
  | .hwrBufline6 _ => false
  | .hrdBufline6 => false
  | .hwrBufstat7 _ => false
  | .hrdBufstat7 => false
  | .hwrBuftag7 _ => false
  | .hrdBuftag7 => false
  | .hwrBufline7 _ => false
  | .hrdBufline7 => false
  | .hwrBuf0 _ _ _ => false
  | .hrdBuf0 _ _ => false
  | .hwrBuf1 _ _ _ => false
  | .hrdBuf1 _ _ => false
  | .hwrBuf2 _ _ _ => false
  | .hrdBuf2 _ _ => false
  | .hwrBuf3 _ _ _ => false
  | .hrdBuf3 _ _ => false
  | .hwrBuf4 _ _ _ => false
  | .hrdBuf4 _ _ => false
  | .hwrBuf5 _ _ _ => false
  | .hrdBuf5 _ _ => false
  | .hwrBuf6 _ _ _ => false
  | .hrdBuf6 _ _ => false
  | .hwrBuf7 _ _ _ => false
  | .hrdBuf7 _ _ => false
  | .nop => true
  | .configure => true
  | .start => true
  | .stop => true
  | .setOutput _ => true
  | .injectLtSuppress => true
  | .reservedCmd _ => true

/-- The word is a command word. -/
def isCmdWord : OpWord → Bool
  | .txn _ => false
  | .cmd _ => true

/-- Each operation is encoded in the format the opcode table gives its row. -/
def RowFormat.Statement (i : Instr) : Prop := isCmdWord (encode i) = isCommand i

theorem RowFormat.tick : RowFormat.Statement .tick := rfl
theorem RowFormat.hwr (sz : Size) (addr : Addr) (data : Word) : RowFormat.Statement (.hwr sz addr data) := rfl
theorem RowFormat.hrd (sz : Size) (addr : Addr) : RowFormat.Statement (.hrd sz addr) := rfl
theorem RowFormat.drd (off : Addr) : RowFormat.Statement (.drd off) := rfl
theorem RowFormat.ltsvc : RowFormat.Statement .ltsvc := rfl
theorem RowFormat.sasvc : RowFormat.Statement .sasvc := rfl
theorem RowFormat.rst : RowFormat.Statement .rst := rfl
theorem RowFormat.periph (v : Bool) : RowFormat.Statement (.periph v) := rfl
theorem RowFormat.reservedOp (code : BitVec 8) : RowFormat.Statement (.reservedOp code) := rfl
theorem RowFormat.hwrSz3 : RowFormat.Statement .hwrSz3 := rfl
theorem RowFormat.hrdSz3 : RowFormat.Statement .hrdSz3 := rfl
theorem RowFormat.hwrId (data : Word) : RowFormat.Statement (.hwrId data) := rfl
theorem RowFormat.hrdId : RowFormat.Statement .hrdId := rfl
theorem RowFormat.hwrParam (data : Word) : RowFormat.Statement (.hwrParam data) := rfl
theorem RowFormat.hrdParam : RowFormat.Statement .hrdParam := rfl
theorem RowFormat.hwrCmd (data : Word) : RowFormat.Statement (.hwrCmd data) := rfl
theorem RowFormat.hrdCmd : RowFormat.Statement .hrdCmd := rfl
theorem RowFormat.hwrStatus (data : Word) : RowFormat.Statement (.hwrStatus data) := rfl
theorem RowFormat.hrdStatus : RowFormat.Statement .hrdStatus := rfl
theorem RowFormat.hwrErr (data : Word) : RowFormat.Statement (.hwrErr data) := rfl
theorem RowFormat.hrdErr : RowFormat.Statement .hrdErr := rfl
theorem RowFormat.hwrRmReq (data : Word) : RowFormat.Statement (.hwrRmReq data) := rfl
theorem RowFormat.hrdRmReq : RowFormat.Statement .hrdRmReq := rfl
theorem RowFormat.hwrRmDone (data : Word) : RowFormat.Statement (.hwrRmDone data) := rfl
theorem RowFormat.hrdRmDone : RowFormat.Statement .hrdRmDone := rfl
theorem RowFormat.hwrHtim0 (data : Word) : RowFormat.Statement (.hwrHtim0 data) := rfl
theorem RowFormat.hrdHtim0 : RowFormat.Statement .hrdHtim0 := rfl
theorem RowFormat.hwrHtim1 (data : Word) : RowFormat.Statement (.hwrHtim1 data) := rfl
theorem RowFormat.hrdHtim1 : RowFormat.Statement .hrdHtim1 := rfl
theorem RowFormat.hwrVtim0 (data : Word) : RowFormat.Statement (.hwrVtim0 data) := rfl
theorem RowFormat.hrdVtim0 : RowFormat.Statement .hrdVtim0 := rfl
theorem RowFormat.hwrVtim1 (data : Word) : RowFormat.Statement (.hwrVtim1 data) := rfl
theorem RowFormat.hrdVtim1 : RowFormat.Statement .hrdVtim1 := rfl
theorem RowFormat.hwrSyncSa (data : Word) : RowFormat.Statement (.hwrSyncSa data) := rfl
theorem RowFormat.hrdSyncSa : RowFormat.Statement .hrdSyncSa := rfl
theorem RowFormat.hwrSaTol (data : Word) : RowFormat.Statement (.hwrSaTol data) := rfl
theorem RowFormat.hrdSaTol : RowFormat.Statement .hrdSaTol := rfl
theorem RowFormat.hwrLine (data : Word) : RowFormat.Statement (.hwrLine data) := rfl
theorem RowFormat.hrdLine : RowFormat.Statement .hrdLine := rfl
theorem RowFormat.hwrFrame (data : Word) : RowFormat.Statement (.hwrFrame data) := rfl
theorem RowFormat.hrdFrame : RowFormat.Statement .hrdFrame := rfl
theorem RowFormat.hwrSeq (data : Word) : RowFormat.Statement (.hwrSeq data) := rfl
theorem RowFormat.hrdSeq : RowFormat.Statement .hrdSeq := rfl
theorem RowFormat.hwrCnt (data : Word) : RowFormat.Statement (.hwrCnt data) := rfl
theorem RowFormat.hrdCnt : RowFormat.Statement .hrdCnt := rfl
theorem RowFormat.hwrWdog (data : Word) : RowFormat.Statement (.hwrWdog data) := rfl
theorem RowFormat.hrdWdog : RowFormat.Statement .hrdWdog := rfl
theorem RowFormat.hwrTimer (data : Word) : RowFormat.Statement (.hwrTimer data) := rfl
theorem RowFormat.hrdTimer : RowFormat.Statement .hrdTimer := rfl
theorem RowFormat.hwrBufstat0 (data : Word) : RowFormat.Statement (.hwrBufstat0 data) := rfl
theorem RowFormat.hrdBufstat0 : RowFormat.Statement .hrdBufstat0 := rfl
theorem RowFormat.hwrBuftag0 (data : Word) : RowFormat.Statement (.hwrBuftag0 data) := rfl
theorem RowFormat.hrdBuftag0 : RowFormat.Statement .hrdBuftag0 := rfl
theorem RowFormat.hwrBufline0 (data : Word) : RowFormat.Statement (.hwrBufline0 data) := rfl
theorem RowFormat.hrdBufline0 : RowFormat.Statement .hrdBufline0 := rfl
theorem RowFormat.hwrBufstat1 (data : Word) : RowFormat.Statement (.hwrBufstat1 data) := rfl
theorem RowFormat.hrdBufstat1 : RowFormat.Statement .hrdBufstat1 := rfl
theorem RowFormat.hwrBuftag1 (data : Word) : RowFormat.Statement (.hwrBuftag1 data) := rfl
theorem RowFormat.hrdBuftag1 : RowFormat.Statement .hrdBuftag1 := rfl
theorem RowFormat.hwrBufline1 (data : Word) : RowFormat.Statement (.hwrBufline1 data) := rfl
theorem RowFormat.hrdBufline1 : RowFormat.Statement .hrdBufline1 := rfl
theorem RowFormat.hwrBufstat2 (data : Word) : RowFormat.Statement (.hwrBufstat2 data) := rfl
theorem RowFormat.hrdBufstat2 : RowFormat.Statement .hrdBufstat2 := rfl
theorem RowFormat.hwrBuftag2 (data : Word) : RowFormat.Statement (.hwrBuftag2 data) := rfl
theorem RowFormat.hrdBuftag2 : RowFormat.Statement .hrdBuftag2 := rfl
theorem RowFormat.hwrBufline2 (data : Word) : RowFormat.Statement (.hwrBufline2 data) := rfl
theorem RowFormat.hrdBufline2 : RowFormat.Statement .hrdBufline2 := rfl
theorem RowFormat.hwrBufstat3 (data : Word) : RowFormat.Statement (.hwrBufstat3 data) := rfl
theorem RowFormat.hrdBufstat3 : RowFormat.Statement .hrdBufstat3 := rfl
theorem RowFormat.hwrBuftag3 (data : Word) : RowFormat.Statement (.hwrBuftag3 data) := rfl
theorem RowFormat.hrdBuftag3 : RowFormat.Statement .hrdBuftag3 := rfl
theorem RowFormat.hwrBufline3 (data : Word) : RowFormat.Statement (.hwrBufline3 data) := rfl
theorem RowFormat.hrdBufline3 : RowFormat.Statement .hrdBufline3 := rfl
theorem RowFormat.hwrBufstat4 (data : Word) : RowFormat.Statement (.hwrBufstat4 data) := rfl
theorem RowFormat.hrdBufstat4 : RowFormat.Statement .hrdBufstat4 := rfl
theorem RowFormat.hwrBuftag4 (data : Word) : RowFormat.Statement (.hwrBuftag4 data) := rfl
theorem RowFormat.hrdBuftag4 : RowFormat.Statement .hrdBuftag4 := rfl
theorem RowFormat.hwrBufline4 (data : Word) : RowFormat.Statement (.hwrBufline4 data) := rfl
theorem RowFormat.hrdBufline4 : RowFormat.Statement .hrdBufline4 := rfl
theorem RowFormat.hwrBufstat5 (data : Word) : RowFormat.Statement (.hwrBufstat5 data) := rfl
theorem RowFormat.hrdBufstat5 : RowFormat.Statement .hrdBufstat5 := rfl
theorem RowFormat.hwrBuftag5 (data : Word) : RowFormat.Statement (.hwrBuftag5 data) := rfl
theorem RowFormat.hrdBuftag5 : RowFormat.Statement .hrdBuftag5 := rfl
theorem RowFormat.hwrBufline5 (data : Word) : RowFormat.Statement (.hwrBufline5 data) := rfl
theorem RowFormat.hrdBufline5 : RowFormat.Statement .hrdBufline5 := rfl
theorem RowFormat.hwrBufstat6 (data : Word) : RowFormat.Statement (.hwrBufstat6 data) := rfl
theorem RowFormat.hrdBufstat6 : RowFormat.Statement .hrdBufstat6 := rfl
theorem RowFormat.hwrBuftag6 (data : Word) : RowFormat.Statement (.hwrBuftag6 data) := rfl
theorem RowFormat.hrdBuftag6 : RowFormat.Statement .hrdBuftag6 := rfl
theorem RowFormat.hwrBufline6 (data : Word) : RowFormat.Statement (.hwrBufline6 data) := rfl
theorem RowFormat.hrdBufline6 : RowFormat.Statement .hrdBufline6 := rfl
theorem RowFormat.hwrBufstat7 (data : Word) : RowFormat.Statement (.hwrBufstat7 data) := rfl
theorem RowFormat.hrdBufstat7 : RowFormat.Statement .hrdBufstat7 := rfl
theorem RowFormat.hwrBuftag7 (data : Word) : RowFormat.Statement (.hwrBuftag7 data) := rfl
theorem RowFormat.hrdBuftag7 : RowFormat.Statement .hrdBuftag7 := rfl
theorem RowFormat.hwrBufline7 (data : Word) : RowFormat.Statement (.hwrBufline7 data) := rfl
theorem RowFormat.hrdBufline7 : RowFormat.Statement .hrdBufline7 := rfl
theorem RowFormat.hwrBuf0 (sz : Size) (off : BitVec 12) (data : Word) : RowFormat.Statement (.hwrBuf0 sz off data) := rfl
theorem RowFormat.hrdBuf0 (sz : Size) (off : BitVec 12) : RowFormat.Statement (.hrdBuf0 sz off) := rfl
theorem RowFormat.hwrBuf1 (sz : Size) (off : BitVec 12) (data : Word) : RowFormat.Statement (.hwrBuf1 sz off data) := rfl
theorem RowFormat.hrdBuf1 (sz : Size) (off : BitVec 12) : RowFormat.Statement (.hrdBuf1 sz off) := rfl
theorem RowFormat.hwrBuf2 (sz : Size) (off : BitVec 12) (data : Word) : RowFormat.Statement (.hwrBuf2 sz off data) := rfl
theorem RowFormat.hrdBuf2 (sz : Size) (off : BitVec 12) : RowFormat.Statement (.hrdBuf2 sz off) := rfl
theorem RowFormat.hwrBuf3 (sz : Size) (off : BitVec 12) (data : Word) : RowFormat.Statement (.hwrBuf3 sz off data) := rfl
theorem RowFormat.hrdBuf3 (sz : Size) (off : BitVec 12) : RowFormat.Statement (.hrdBuf3 sz off) := rfl
theorem RowFormat.hwrBuf4 (sz : Size) (off : BitVec 12) (data : Word) : RowFormat.Statement (.hwrBuf4 sz off data) := rfl
theorem RowFormat.hrdBuf4 (sz : Size) (off : BitVec 12) : RowFormat.Statement (.hrdBuf4 sz off) := rfl
theorem RowFormat.hwrBuf5 (sz : Size) (off : BitVec 12) (data : Word) : RowFormat.Statement (.hwrBuf5 sz off data) := rfl
theorem RowFormat.hrdBuf5 (sz : Size) (off : BitVec 12) : RowFormat.Statement (.hrdBuf5 sz off) := rfl
theorem RowFormat.hwrBuf6 (sz : Size) (off : BitVec 12) (data : Word) : RowFormat.Statement (.hwrBuf6 sz off data) := rfl
theorem RowFormat.hrdBuf6 (sz : Size) (off : BitVec 12) : RowFormat.Statement (.hrdBuf6 sz off) := rfl
theorem RowFormat.hwrBuf7 (sz : Size) (off : BitVec 12) (data : Word) : RowFormat.Statement (.hwrBuf7 sz off data) := rfl
theorem RowFormat.hrdBuf7 (sz : Size) (off : BitVec 12) : RowFormat.Statement (.hrdBuf7 sz off) := rfl
theorem RowFormat.nop : RowFormat.Statement .nop := rfl
theorem RowFormat.configure : RowFormat.Statement .configure := rfl
theorem RowFormat.start : RowFormat.Statement .start := rfl
theorem RowFormat.stop : RowFormat.Statement .stop := rfl
theorem RowFormat.setOutput (en : Bool) : RowFormat.Statement (.setOutput en) := rfl
theorem RowFormat.injectLtSuppress : RowFormat.Statement .injectLtSuppress := rfl
theorem RowFormat.reservedCmd (code : BitVec 8) : RowFormat.Statement (.reservedCmd code) := rfl

end Sys2Proof.Laws
end

