-- ==== Sys2Proof/Tests/Slice0.lean ====
section
/-! SUPPORT. Tests. The words of the decode tests are written from the encoding of 30_encoding.md R111 and R121 and
opcode_table.json; the expected results of the vector tests are those of 95_test_vectors.md, named in each docstring; a
witness test shows a concrete state and operands that meet all the hypotheses of the statement it names. -/

namespace Sys2Proof.Tests

open Sys2Proof Sys2Proof.Machine

/-! ### Small states (95_test_vectors.md section 1) -/

/-- The mode M6. -/
def m6 : Mode := ⟨20, 2, 5, 17, 6, 4, 0, 1, false, false, 1, 10, 3⟩

/-- The mode M5: M6 with one vertical-blank line. -/
def m5 : Mode := { m6 with lTotal := 5 }

/-- Base state B: M6 after START, output enabled. -/
def base : State :=
  { State.reset with
    mode := m6
    ctl := ⟨.rastering, .armed, true, .none, true⟩
    ln := { LineState.reset with region := .vsync } }

/-- A buffer with an owner, a line sequence number and a valid range. -/
def bufOf (o : Own) (tag : BitVec 32) (vr : Count) : Buf := ⟨o, false, tag, 0, vr⟩

/-- The start state of vector L1: buffer 0 is ready for line 2, and a firing is pending. -/
def atL1 : State :=
  setBuf 0 (bufOf .ready 2 1) { base with
    ctl := { base.ctl with hsm := .activeBlank }
    tmr := { base.tmr with ltPend := true }
    ln := { base.ln with line := 1, seq := 1, region := .blank } }

/-- The start state of vector L2: buffer 1 is still being filled for line 3. -/
def atL2 : State :=
  setBuf 1 (bufOf .filling 3 0) { base with
    ctl := { base.ctl with hsm := .activeVisible }
    tmr := { base.tmr with ltPend := true }
    ln := { base.ln with line := 2, seq := 2, region := .visible }
    rm := { base.rm with busy := true, buf := 1 } }

/-- The start state of vector L8: a resynchronization is requested, and buffer 1 holds a line that will be skipped. -/
def atL8 : State :=
  setBuf 1 (bufOf .ready 3 1) { base with
    ctl := { base.ctl with hsm := .resyncing }
    tmr := { base.tmr with ltPend := true, ltLost := 1, resyncReq := true }
    ln := { base.ln with line := 2, seq := 2, region := .visible, miss := true, resyncCnt := 1 } }

/-- The start state of vector L6: the last line of the frame ends. -/
def atL6 : State :=
  { base with
    ctl := { base.ctl with hsm := .activeVisible }
    tmr := { base.tmr with ltPend := true }
    ln := { base.ln with line := 5, seq := 5, region := .visible } }

/-- The start state of vector B1: buffer 0 is being filled. -/
def atB1 : State := setBuf 0 (bufOf .filling 2 0) { base with rm := { base.rm with busy := true } }

/-- The start state of vector B3: a discarded fill is in service and a request waits. -/
def atB3 : State :=
  setBuf 1 { bufOf .filling 3 0 with discard := true }
    { base with rm := ⟨true, 1, 0, true, 4, 2⟩ }

/-- The start state of vector X1, in the active video of line 2: buffer 0 is streaming two bytes. -/
def atX1 : State :=
  setBuf 0 (bufOf .xfer 2 2) { base with
    ctl := { base.ctl with hsm := .activeVisible }
    tmr := { base.tmr with ltCnt := 10, wdCnt := 10 }
    ln := { base.ln with line := 2, seq := 2, region := .visible }
    xfer := ⟨.streaming, 0, 2⟩
    mem := [(0x1000, 0x12#8), (0x1001, 0x34#8)] }

/-- X1 one tick before the end of active video. -/
def atX1End : State := { atX1 with tmr := { atX1.tmr with ltCnt := 16, wdCnt := 16 } }

/-- One tick before the end of active video, while a request waits behind a fill in service. -/
def atWaiting : State :=
  setBuf 1 { bufOf .filling 2 0 with discard := true } { atX1End with rm := ⟨true, 1, 0, true, 3, 1⟩ }

/-- Stopped in mode M5, with a discarded fill of the earlier raster in service. -/
def atRestart : State :=
  setBuf 1 { bufOf .filling 3 0 with discard := true }
    { State.reset with
      mode := m5
      ctl := { Control.reset with drv := .stopped }
      rm := { Handshake.reset with busy := true, buf := 1 } }

/-- Stopped in mode M5, with no buffer free or ready (no run reaches it). -/
def atNoBuffer : State :=
  setBuf 0 (bufOf .xfer 3 0) (setBuf 1 (bufOf .xfer 3 0) { atRestart with rm := Handshake.reset })

/-- B with the line timer at a count. -/
def atCount (n : Count) : State := { base with tmr := { base.tmr with ltCnt := n } }

/-- B with a shock-absorber firing pending at its phase, and the watchdog at a count. -/
def atShock (wd : Count) : State :=
  { base with tmr := { base.tmr with ltCnt := 10, wdCnt := wd, saPend := true } }

/-- A request waits, the raster-maintenance context is idle, and buffer 1 is the first free buffer. -/
def atRequest : State :=
  setBuf 0 (bufOf .ready 4 1) { base with rm := { base.rm with pend := true, pendSeq := 9, pendLine := 3 } }

/-- Every buffer is in use while a request waits. -/
def atNoneFree : State := setBuf 1 (bufOf .xfer 4 1) atRequest

/-- The reset state with a driver state. -/
def inDrv (d : Drv) (m : Mode) : State := { State.reset with mode := m, ctl := { Control.reset with drv := d } }

/-- The answer is a next state with property `p`. -/
def after (r : Result) (p : State → Bool) : Bool :=
  match r with
  | .next t => p t
  | .fault _ => false
  | .refused _ => false

/-- An answer checked by `after` is a next state. -/
theorem next_of_after {r : Result} {p : State → Bool} (h : after r p = true) : ∃ t, r = .next t ∧ p t = true := by
  cases r with
  | next t => exact ⟨t, rfl, h⟩
  | fault x => cases h
  | refused x => cases h

/-! ### Decoding: one word for each row of the opcode table, written from R111 to R122 -/

theorem test_decode_group0 :
  decode (.txn 0x0100000000000000#64) = .tick ∧
  decode (.txn 0x02000040A1B2C3D4#64) = .hwr .byte 0x0040#16 0xA1B2C3D4#32 ∧
  decode (.txn 0x0301900000000000#64) = .hrd .half 0x9000#16 ∧
  decode (.txn 0x0400031F00000000#64) = .drd 0x031F#16 ∧
  decode (.txn 0x0500000000000000#64) = .ltsvc ∧
  decode (.txn 0x0600000000000000#64) = .sasvc ∧
  decode (.txn 0x0700000000000000#64) = .rst ∧
  decode (.txn 0x0800000000000001#64) = .periph true ∧
  decode (.txn 0x0000000000000000#64) = .reservedOp 0x00#8 ∧
  decode (.txn 0x0900000000000000#64) = .reservedOp 0x09#8 ∧
  decode (.txn 0x0A00000000000000#64) = .reservedOp 0x0A#8 ∧
  decode (.txn 0x0C00000000000000#64) = .reservedOp 0x0C#8 ∧
  decode (.txn 0x1000000000000000#64) = .reservedOp 0x10#8 ∧
  decode (.txn 0x2000000000000000#64) = .reservedOp 0x20#8 ∧
  decode (.txn 0x4000000000000000#64) = .reservedOp 0x40#8 ∧
  decode (.txn 0x8000000000000000#64) = .reservedOp 0x80#8 := by decide

theorem test_decode_group1 :
  decode (.txn 0x0203000000000000#64) = .hwrSz3 ∧
  decode (.txn 0x0303000000000000#64) = .hrdSz3 ∧
  decode (.txn 0x02020000A1B2C3D4#64) = .hwrId 0xA1B2C3D4#32 ∧
  decode (.txn 0x0302000000000000#64) = .hrdId ∧
  decode (.txn 0x02020004A1B2C3D4#64) = .hwrParam 0xA1B2C3D4#32 ∧
  decode (.txn 0x0302000400000000#64) = .hrdParam ∧
  decode (.txn 0x02020008A1B2C3D4#64) = .hwrCmd 0xA1B2C3D4#32 ∧
  decode (.txn 0x0302000800000000#64) = .hrdCmd ∧
  decode (.txn 0x0202000CA1B2C3D4#64) = .hwrStatus 0xA1B2C3D4#32 ∧
  decode (.txn 0x0302000C00000000#64) = .hrdStatus ∧
  decode (.txn 0x02020010A1B2C3D4#64) = .hwrErr 0xA1B2C3D4#32 ∧
  decode (.txn 0x0302001000000000#64) = .hrdErr ∧
  decode (.txn 0x02020014A1B2C3D4#64) = .hwrRmReq 0xA1B2C3D4#32 ∧
  decode (.txn 0x0302001400000000#64) = .hrdRmReq ∧
  decode (.txn 0x02020018A1B2C3D4#64) = .hwrRmDone 0xA1B2C3D4#32 ∧
  decode (.txn 0x0302001800000000#64) = .hrdRmDone := by decide

theorem test_decode_group2 :
  decode (.txn 0x02020020A1B2C3D4#64) = .hwrHtim0 0xA1B2C3D4#32 ∧
  decode (.txn 0x0302002000000000#64) = .hrdHtim0 ∧
  decode (.txn 0x02020024A1B2C3D4#64) = .hwrHtim1 0xA1B2C3D4#32 ∧
  decode (.txn 0x0302002400000000#64) = .hrdHtim1 ∧
  decode (.txn 0x02020028A1B2C3D4#64) = .hwrVtim0 0xA1B2C3D4#32 ∧
  decode (.txn 0x0302002800000000#64) = .hrdVtim0 ∧
  decode (.txn 0x0202002CA1B2C3D4#64) = .hwrVtim1 0xA1B2C3D4#32 ∧
  decode (.txn 0x0302002C00000000#64) = .hrdVtim1 ∧
  decode (.txn 0x02020030A1B2C3D4#64) = .hwrSyncSa 0xA1B2C3D4#32 ∧
  decode (.txn 0x0302003000000000#64) = .hrdSyncSa ∧
  decode (.txn 0x02020034A1B2C3D4#64) = .hwrSaTol 0xA1B2C3D4#32 ∧
  decode (.txn 0x0302003400000000#64) = .hrdSaTol ∧
  decode (.txn 0x02020040A1B2C3D4#64) = .hwrLine 0xA1B2C3D4#32 ∧
  decode (.txn 0x0302004000000000#64) = .hrdLine ∧
  decode (.txn 0x02020044A1B2C3D4#64) = .hwrFrame 0xA1B2C3D4#32 ∧
  decode (.txn 0x0302004400000000#64) = .hrdFrame := by decide

theorem test_decode_group3 :
  decode (.txn 0x02020048A1B2C3D4#64) = .hwrSeq 0xA1B2C3D4#32 ∧
  decode (.txn 0x0302004800000000#64) = .hrdSeq ∧
  decode (.txn 0x0202004CA1B2C3D4#64) = .hwrCnt 0xA1B2C3D4#32 ∧
  decode (.txn 0x0302004C00000000#64) = .hrdCnt ∧
  decode (.txn 0x02020050A1B2C3D4#64) = .hwrWdog 0xA1B2C3D4#32 ∧
  decode (.txn 0x0302005000000000#64) = .hrdWdog ∧
  decode (.txn 0x02020054A1B2C3D4#64) = .hwrTimer 0xA1B2C3D4#32 ∧
  decode (.txn 0x0302005400000000#64) = .hrdTimer ∧
  decode (.txn 0x02020060A1B2C3D4#64) = .hwrBufstat0 0xA1B2C3D4#32 ∧
  decode (.txn 0x0302006000000000#64) = .hrdBufstat0 ∧
  decode (.txn 0x02020080A1B2C3D4#64) = .hwrBuftag0 0xA1B2C3D4#32 ∧
  decode (.txn 0x0302008000000000#64) = .hrdBuftag0 ∧
  decode (.txn 0x020200A0A1B2C3D4#64) = .hwrBufline0 0xA1B2C3D4#32 ∧
  decode (.txn 0x030200A000000000#64) = .hrdBufline0 ∧
  decode (.txn 0x02020064A1B2C3D4#64) = .hwrBufstat1 0xA1B2C3D4#32 ∧
  decode (.txn 0x0302006400000000#64) = .hrdBufstat1 := by decide

theorem test_decode_group4 :
  decode (.txn 0x02020084A1B2C3D4#64) = .hwrBuftag1 0xA1B2C3D4#32 ∧
  decode (.txn 0x0302008400000000#64) = .hrdBuftag1 ∧
  decode (.txn 0x020200A4A1B2C3D4#64) = .hwrBufline1 0xA1B2C3D4#32 ∧
  decode (.txn 0x030200A400000000#64) = .hrdBufline1 ∧
  decode (.txn 0x02020068A1B2C3D4#64) = .hwrBufstat2 0xA1B2C3D4#32 ∧
  decode (.txn 0x0302006800000000#64) = .hrdBufstat2 ∧
  decode (.txn 0x02020088A1B2C3D4#64) = .hwrBuftag2 0xA1B2C3D4#32 ∧
  decode (.txn 0x0302008800000000#64) = .hrdBuftag2 ∧
  decode (.txn 0x020200A8A1B2C3D4#64) = .hwrBufline2 0xA1B2C3D4#32 ∧
  decode (.txn 0x030200A800000000#64) = .hrdBufline2 ∧
  decode (.txn 0x0202006CA1B2C3D4#64) = .hwrBufstat3 0xA1B2C3D4#32 ∧
  decode (.txn 0x0302006C00000000#64) = .hrdBufstat3 ∧
  decode (.txn 0x0202008CA1B2C3D4#64) = .hwrBuftag3 0xA1B2C3D4#32 ∧
  decode (.txn 0x0302008C00000000#64) = .hrdBuftag3 ∧
  decode (.txn 0x020200ACA1B2C3D4#64) = .hwrBufline3 0xA1B2C3D4#32 ∧
  decode (.txn 0x030200AC00000000#64) = .hrdBufline3 := by decide

theorem test_decode_group5 :
  decode (.txn 0x02020070A1B2C3D4#64) = .hwrBufstat4 0xA1B2C3D4#32 ∧
  decode (.txn 0x0302007000000000#64) = .hrdBufstat4 ∧
  decode (.txn 0x02020090A1B2C3D4#64) = .hwrBuftag4 0xA1B2C3D4#32 ∧
  decode (.txn 0x0302009000000000#64) = .hrdBuftag4 ∧
  decode (.txn 0x020200B0A1B2C3D4#64) = .hwrBufline4 0xA1B2C3D4#32 ∧
  decode (.txn 0x030200B000000000#64) = .hrdBufline4 ∧
  decode (.txn 0x02020074A1B2C3D4#64) = .hwrBufstat5 0xA1B2C3D4#32 ∧
  decode (.txn 0x0302007400000000#64) = .hrdBufstat5 ∧
  decode (.txn 0x02020094A1B2C3D4#64) = .hwrBuftag5 0xA1B2C3D4#32 ∧
  decode (.txn 0x0302009400000000#64) = .hrdBuftag5 ∧
  decode (.txn 0x020200B4A1B2C3D4#64) = .hwrBufline5 0xA1B2C3D4#32 ∧
  decode (.txn 0x030200B400000000#64) = .hrdBufline5 ∧
  decode (.txn 0x02020078A1B2C3D4#64) = .hwrBufstat6 0xA1B2C3D4#32 ∧
  decode (.txn 0x0302007800000000#64) = .hrdBufstat6 ∧
  decode (.txn 0x02020098A1B2C3D4#64) = .hwrBuftag6 0xA1B2C3D4#32 ∧
  decode (.txn 0x0302009800000000#64) = .hrdBuftag6 := by decide

theorem test_decode_group6 :
  decode (.txn 0x020200B8A1B2C3D4#64) = .hwrBufline6 0xA1B2C3D4#32 ∧
  decode (.txn 0x030200B800000000#64) = .hrdBufline6 ∧
  decode (.txn 0x0202007CA1B2C3D4#64) = .hwrBufstat7 0xA1B2C3D4#32 ∧
  decode (.txn 0x0302007C00000000#64) = .hrdBufstat7 ∧
  decode (.txn 0x0202009CA1B2C3D4#64) = .hwrBuftag7 0xA1B2C3D4#32 ∧
  decode (.txn 0x0302009C00000000#64) = .hrdBuftag7 ∧
  decode (.txn 0x020200BCA1B2C3D4#64) = .hwrBufline7 0xA1B2C3D4#32 ∧
  decode (.txn 0x030200BC00000000#64) = .hrdBufline7 ∧
  decode (.txn 0x0200131FA1B2C3D4#64) = .hwrBuf0 .byte 0x31F#12 0xA1B2C3D4#32 ∧
  decode (.txn 0x0300131F00000000#64) = .hrdBuf0 .byte 0x31F#12 ∧
  decode (.txn 0x0201231EA1B2C3D4#64) = .hwrBuf1 .half 0x31E#12 0xA1B2C3D4#32 ∧
  decode (.txn 0x0301231E00000000#64) = .hrdBuf1 .half 0x31E#12 ∧
  decode (.txn 0x0202331CA1B2C3D4#64) = .hwrBuf2 .word 0x31C#12 0xA1B2C3D4#32 ∧
  decode (.txn 0x0302331C00000000#64) = .hrdBuf2 .word 0x31C#12 ∧
  decode (.txn 0x0200431FA1B2C3D4#64) = .hwrBuf3 .byte 0x31F#12 0xA1B2C3D4#32 ∧
  decode (.txn 0x0300431F00000000#64) = .hrdBuf3 .byte 0x31F#12 := by decide

theorem test_decode_group7 :
  decode (.txn 0x0201531EA1B2C3D4#64) = .hwrBuf4 .half 0x31E#12 0xA1B2C3D4#32 ∧
  decode (.txn 0x0301531E00000000#64) = .hrdBuf4 .half 0x31E#12 ∧
  decode (.txn 0x0202631CA1B2C3D4#64) = .hwrBuf5 .word 0x31C#12 0xA1B2C3D4#32 ∧
  decode (.txn 0x0302631C00000000#64) = .hrdBuf5 .word 0x31C#12 ∧
  decode (.txn 0x0200731FA1B2C3D4#64) = .hwrBuf6 .byte 0x31F#12 0xA1B2C3D4#32 ∧
  decode (.txn 0x0300731F00000000#64) = .hrdBuf6 .byte 0x31F#12 ∧
  decode (.txn 0x0201831EA1B2C3D4#64) = .hwrBuf7 .half 0x31E#12 0xA1B2C3D4#32 ∧
  decode (.txn 0x0301831E00000000#64) = .hrdBuf7 .half 0x31E#12 := by decide

theorem test_decode_group8 :
  decode (.cmd 0x00000000#32) = .nop ∧
  decode (.cmd 0x00000001#32) = .configure ∧
  decode (.cmd 0x00000002#32) = .start ∧
  decode (.cmd 0x00000003#32) = .stop ∧
  decode (.cmd 0x00000104#32) = .setOutput true ∧
  decode (.cmd 0x00000005#32) = .injectLtSuppress ∧
  decode (.cmd 0x00000006#32) = .reservedCmd 0x06#8 ∧
  decode (.cmd 0x00000008#32) = .reservedCmd 0x08#8 ∧
  decode (.cmd 0x00000010#32) = .reservedCmd 0x10#8 ∧
  decode (.cmd 0x00000020#32) = .reservedCmd 0x20#8 ∧
  decode (.cmd 0x00000040#32) = .reservedCmd 0x40#8 ∧
  decode (.cmd 0x00000080#32) = .reservedCmd 0x80#8 := by decide

/-! ### Well-formedness: each check refuses an ill-formed operation -/

/-- A register row covers the word read of LINE, a window row every access to a window (R115). -/
theorem test_wellFormed_plain_access :
  (Instr.hwr .word 0x0040#16 0).wellFormed = false ∧ (Instr.hwr .byte 0x1000#16 0).wellFormed = false ∧
  (Instr.hrd .word 0x0040#16).wellFormed = false ∧ (Instr.hrd .half 0x8FFE#16).wellFormed = false ∧
  (Instr.hwr .byte 0x0040#16 0).wellFormed = true ∧ (Instr.hrd .half 0x9000#16).wellFormed = true := by decide

/-- TICK's code is not reserved (R113), and SET_OUTPUT's and INJECT_LT_SUPPRESS's are not (R122). -/
theorem test_wellFormed_reserved :
  (Instr.reservedOp 0x01#8).wellFormed = false ∧ (Instr.reservedOp 0x08#8).wellFormed = false ∧
  (Instr.reservedOp 0x00#8).wellFormed = true ∧ (Instr.reservedOp 0x09#8).wellFormed = true ∧
  (Instr.reservedCmd 0x05#8).wellFormed = false ∧ (Instr.reservedCmd 0x06#8).wellFormed = true := by decide

/-- The default parameters are in range; one buffer, nine buffers or no bytes are not (R11, R12). -/
theorem test_wellFormed_params :
  Params.default.wf = true ∧ (Params.mk 1 800 0).wf = false ∧ (Params.mk 9 800 0).wf = false ∧
  (Params.mk 2 0 0).wf = false ∧ (Params.mk 2 4097 0).wf = false := by decide

/-! ### The step and the schedule -/

/-- The table word of TICK is run by the next step from reset (R151: nothing changes). -/
theorem test_withFetchWord_tick :
  after (step (State.reset.withFetchWord 64 0x0100000000000000)) (· == State.reset) = true := by decide

/-- The table words of LTSVC and SASVC are granted with their word (log entry 6), and a command word is a command. -/
theorem test_withFetchWord_services :
  after (step (State.reset.withFetchWord 64 0x0500000000000000)) (fun t => t.ln.seq == 1) = true ∧
  after (step (State.reset.withFetchWord 64 0x0600000000000000)) (fun t => !t.tmr.saPend) = true ∧
  after (step (State.reset.withFetchWord 32 0x104)) (fun t => t.ctl.outEn) = true := by decide

/-- The `mode` lines of M6 are the six words of 95_test_vectors.md section 1. -/
theorem test_mode_words :
  asmMode m6 = [.txn 0x0202002000020014#64, .txn 0x0202002400110005#64, .txn 0x0202002800040006#64,
    .txn 0x0202002C00010000#64, .txn 0x02020030000A0100#64, .txn 0x0202003400000003#64] := by decide

/-- A second poll that reads a new frame ends the wait (R296). -/
theorem test_syncToVblank : syncToVblank 0 [0, 1, 1] = some 2 ∧ syncToVblank 0 [0, 0] = none := by decide

/-! ### Buffer storage -/

/-- A write keeps addresses rising, replaces an equal address, and is read back (R61). -/
theorem test_memory_insert :
  Memory.insert 5 1#8 [(3, 9#8), (7, 9#8)] = [(3, 9#8), (5, 1#8), (7, 9#8)] ∧
  Memory.insert 3 1#8 [(3, 9#8)] = [(3, 1#8)] ∧ Memory.lookup (Memory.insert 5 1#8 [(3, 9#8)]) 5 = some 1#8 ∧
  Memory.wf [(3, 9#8), (3, 8#8)] = false := by decide

/-! ### TICK -/

/-- Vectors T2 and T3: a wrap makes the firing pending, and the next one is lost. -/
theorem test_tick_wrap :
  after (exec .tick (atCount 19)) (fun t => t.tmr == ⟨0, 0, 1, true, false, false, 0, false⟩) = true ∧
  after (exec .tick { atCount 19 with tmr := ⟨19, 0, 0, true, false, false, 255, false⟩ })
    (fun t => t.tmr == ⟨0, 0, 1, true, false, false, 255, false⟩) = true := by decide

/-- Vectors T5, T6, T13, T9 and T11. -/
theorem test_tick_events :
  after (exec .tick { base with tmr := ⟨19, 0, 0, true, false, true, 0, false⟩ })
    (fun t => t.tmr == ⟨0, 0, 1, true, false, false, 1, false⟩) = true ∧
  after (exec .tick (atCount 9)) (fun t => t.tmr.ltCnt == 10 && t.tmr.saPend) = true ∧
  after (exec .tick { base with tmr := { base.tmr with ltCnt := 3, wdCnt := 0xFFFF } })
    (fun t => t.tmr.ltCnt == 4 && t.tmr.wdCnt == 0xFFFF) = true ∧
  after (exec .tick { setBuf 0 (bufOf .xfer 2 1) (atCount 4) with xfer := ⟨.armed, 0, 1⟩ })
    (fun t => t.xfer.xst == .streaming && t.events == [.dmaStart 0 1]) = true ∧
  after (exec .tick { setBuf 1 (bufOf .xfer 2 1) (atCount 16) with xfer := ⟨.streaming, 1, 1⟩ })
    (fun t => t.xfer.xst == .idle && t.events == [.dmaStop 1] && (t.buf 1).own == .free) = true := by decide

/-! ### LTSVC -/

/-- Vectors L1 and L3: in time the buffer is armed, late it is freed and the line is missed. -/
theorem test_ltsvc_arms_or_misses :
  after (exec .ltsvc atL1) (fun t => t.ln.line == 2 && t.ln.seq == 2 && t.ln.region == .visible && !t.ln.miss &&
    (t.buf 0).own == .xfer && t.buf 1 == ⟨.filling, false, 3, 1, 0⟩ && t.xfer == ⟨.armed, 0, 1⟩ &&
    t.rm == ⟨true, 1, 1, false, 3, 1⟩ && t.events == [.dmaArm 0 1, .rmReq 1 1] && t.ctl.hsm == .activeVisible) = true ∧
  after (exec .ltsvc { atL1 with tmr := { atL1.tmr with ltCnt := 6 } }) (fun t => t.ln.miss && t.ln.missCnt == 1 &&
    t.buf 0 == ⟨.filling, false, 3, 1, 1⟩ && (t.buf 1).own == .free && t.events == [.rmReq 0 1]) = true := by decide

/-- Vectors L8 and L10: a resynchronization skips lines, counts the visible ones, and signals one frame. -/
theorem test_ltsvc_resynchronizes :
  after (exec .ltsvc atL8) (fun t => t.ln.line == 4 && t.ln.seq == 4 && t.ln.miss && t.ln.missCnt == 2 &&
    t.tmr.ltLost == 0 && !t.tmr.resyncReq && (t.buf 1).own == .free && t.buf 0 == ⟨.filling, false, 5, 3, 0⟩ &&
    t.events == [.rmReq 0 3]) = true ∧
  after (exec .ltsvc { base with
      ctl := { base.ctl with hsm := .resyncing }
      tmr := { base.tmr with ltPend := true, ltLost := 7, resyncReq := true }
      ln := { base.ln with line := 4, seq := 4, region := .visible } })
    (fun t => t.ln.line == 0 && t.ln.seq == 12 && t.ln.frame == 2 && t.ln.missCnt == 5 && t.ln.miss &&
      t.events == [.frameIrq 2]) = true := by decide

/-! ### SASVC -/

/-- Vectors S1, S3, S4 and S7. -/
theorem test_sasvc_divergence :
  after (exec .sasvc (atShock 10)) (fun t => !t.tmr.resyncReq && !t.tmr.saPend) = true ∧
  after (exec .sasvc (atShock 4)) (fun t => t.tmr.resyncReq && t.ctl.hsm == .resyncing && t.ln.miss &&
    t.ln.resyncCnt == 1) = true ∧
  after (exec .sasvc (atShock 7)) (fun t => !t.tmr.resyncReq) = true ∧
  after (exec .sasvc { atShock 9 with mode := { m6 with saTol := 0 } }) (fun t => t.tmr.resyncReq) = true := by decide

/-! ### RM_DONE, buffer windows and the DMA read port -/

/-- Vectors B1, B2, B3 and B4. -/
theorem test_rmDone :
  after (exec (.hwrRmDone 1) atB1) (fun t => (t.buf 0).own == .ready && (t.buf 0).vrange == 1 && !t.rm.busy) = true ∧
  after (exec (.hwrRmDone 1000) atB1) (fun t => (t.buf 0).vrange == 800 && t.err.clamped) = true ∧
  after (exec (.hwrRmDone 1) atB3) (fun t => (t.buf 1).own == .free && !(t.buf 1).discard &&
    t.buf 0 == ⟨.filling, false, 4, 2, 0⟩ && t.rm == ⟨true, 0, 2, false, 4, 2⟩ && t.events == [.rmReq 0 2]) = true ∧
  after (exec (.hwrRmDone 1) base) (· == { base with err := { base.err with ownViol := true } }) = true := by decide

/-- Vectors B6, B9, B10, B11 and B12, with buffer 0 in place of buffer 1 in B6. -/
theorem test_window_write :
  after (exec (.hwrBuf0 .half 6 0xBEEF) atB1) (fun t => t.mem == [(0x1006, 0xEF#8), (0x1007, 0xBE#8)]) = true ∧
  after (exec (.hwrBuf0 .byte 0 0x11) base) (fun t => t.mem == [] && t.err.ownViol) = true ∧
  after (exec (.hwrBuf0 .half 1 0x2222) atB1) (fun t => t.mem == [] && t.err.bounds) = true ∧
  after (exec (.hwrBuf0 .byte 0x320 1) atB1) (fun t => t.mem == [] && t.err.bounds) = true ∧
  after (exec (.hwrBuf2 .byte 0 1) atB1) (fun t => t.mem == [] && t.err.badAccess) = true := by decide

/-- Vectors B8 and B14, with buffer 0 in place of buffer 1 in B8. -/
theorem test_window_read :
  after (exec (.hrdBuf0 .word 4) { atB1 with
      mem := [(0x1004, 0x11#8), (0x1005, 0x22#8), (0x1006, 0xEF#8), (0x1007, 0xBE#8)] })
    (fun t => t.events == [.hostData 0xBEEF2211]) = true ∧
  after (exec (.hrdBuf0 .byte 0) atX1) (fun t => t.events == [.hostData 0] && t.err.ownViol) = true := by decide

/-- Vectors X1 to X3 and X7. -/
theorem test_drd :
  after (exec (.drd 0) atX1) (fun t => t.events == [.dmaData 0x12]) = true ∧
  after (exec (.drd 1) atX1) (fun t => t.events == [.dmaData 0x34]) = true ∧
  after (exec (.drd 2) atX1) (fun t => t.events == [.dmaData 0]) = true ∧
  after (exec (.drd 0) { State.reset with params := ⟨2, 800, 0x5A⟩ })
    (fun t => t.events == [.dmaData 0x5A]) = true := by decide

/-! ### Registers -/

/-- Vectors H1 to H3 and H9. -/
theorem test_register_reads :
  after (exec .hrdId State.reset) (fun t => t.events == [.hostData 0x484C5446]) = true ∧
  after (exec .hrdParam State.reset) (fun t => t.events == [.hostData 0x03200012]) = true ∧
  after (exec .hrdStatus State.reset) (fun t => t.events == [.hostData 0x800]) = true ∧
  after (exec .hrdBufstat2 State.reset) (fun t => t.events == [.hostData 0] && t.err.badAccess) = true := by decide

/-- `STATUS` and `RM_REQ` in base state B, and in the state that L1 leaves (B1 gives `STATUS = 0x00001886`). -/
theorem test_status_words :
  regValue .status base = 0x00001886#32 ∧
  after (exec .ltsvc atL1) (fun t => regValue .rmReq t == 0x80010001#32) = true ∧
  regValue (.bufstat 1) atB3 = 0x00000005#32 := by decide

/-- Vectors H5, H7, H10, H11 and H12. -/
theorem test_bad_accesses :
  after (exec (.hrd .byte 0x40) State.reset) (fun t => t.events == [.hostData 0] && t.err.badAccess) = true ∧
  after (exec (.hrd .word 0x42) State.reset) (fun t => t.events == [.hostData 0] && t.err.badAccess) = true ∧
  after (exec (.hrd .word 0x100) State.reset) (fun t => t.events == [.hostData 0] && t.err.badAccess) = true ∧
  after (exec (.hwrLine 5) State.reset) (fun t => t.ln.line == 0 && t.err.badAccess) = true ∧
  after (exec (.hwr .byte 0x9000 1) State.reset) (fun t => t.err.badAccess) = true := by decide

/-- Vectors H13, H14, H15, H17 and H18. -/
theorem test_register_writes :
  after (exec (.hwrSyncSa 0xFFFFFFFF) State.reset) (fun t => regValue .syncSa t == 0xFFFFFF03#32) = true ∧
  after (exec (.hwrSaTol 0x12345678) State.reset) (fun t => regValue .saTol t == 0x5678#32) = true ∧
  after (exec (.hwrErr 0x3F00) { State.reset with
      ctl := { Control.reset with cfgErr := .invalidMode }, err := { ErrBits.reset with ownViol := true } })
    (fun t => regValue .err t == 1#32) = true ∧
  after (exec (.hwrSaTol 5) (inDrv .configured m6)) (fun t => t.mode.saTol == 5 && t.ctl.drv == .uninit) = true ∧
  after (exec (.hwrSaTol 5) base) (fun t => t.mode == m6 && t.err.badState) = true := by decide

/-! ### Commands -/

/-- Vectors C1 to C5. -/
theorem test_configure :
  after (exec .configure (inDrv .uninit m6)) (fun t => t.ctl.drv == .configured && t.ctl.cfgErr == .none) = true ∧
  after (exec .configure (inDrv .uninit { m6 with hsEnd := 5 })) (fun t => t.ctl.cfgErr == .invalidMode) = true ∧
  after (exec .configure { inDrv .uninit m6 with ctl := { Control.reset with periph := false } })
    (fun t => t.ctl.cfgErr == .periphUnavailable) = true ∧
  after (exec .configure { inDrv .uninit { m6 with hsEnd := 5 } with ctl := { Control.reset with periph := false } })
    (fun t => t.ctl.cfgErr == .invalidMode) = true ∧
  after (exec .configure base) (fun t => t.ctl == base.ctl && t.err.badState) = true := by decide

/-- Vectors L13, C6 and C10: START in a mode with one vertical-blank line requests at once. -/
theorem test_start :
  after (exec .start (inDrv .configured m5)) (fun t => t.ctl.drv == .rastering && t.ctl.hsm == .armed &&
    t.ln.region == .vsync && t.buf 0 == ⟨.filling, false, 1, 0, 0⟩ && t.events == [.rmReq 0 0]) = true ∧
  after (exec .start State.reset) (fun t => t.ctl.drv == .uninit && t.err.badState) = true ∧
  after (exec .start { inDrv .stopped m6 with ln := ⟨3, 3, 1, .visible, false, 4, 0⟩ })
    (fun t => t.ln == ⟨0, 0, 0, .vsync, false, 0, 0⟩ && t.events == []) = true := by decide

/-- Vectors C8 and C9. -/
theorem test_stop :
  after (exec .stop (setBuf 1 (bufOf .filling 3 0) { atX1 with
      rm := { atX1.rm with busy := true, buf := 1 }
      tmr := { atX1.tmr with saPend := true, ltSupp := true, resyncReq := true }
      ln := { atX1.ln with miss := true, missCnt := 4 } }))
    (fun t => t.events == [.dmaStop 0] && (t.buf 0).own == .free && (t.buf 1).discard && t.xfer.xst == .idle &&
      !t.tmr.saPend && !t.tmr.ltSupp && !t.tmr.resyncReq && !t.ln.miss && t.ln.missCnt == 4 && t.rm.busy &&
      t.ctl.drv == .stopped && t.ctl.hsm == .idle) = true ∧
  after (exec .stop (setBuf 1 (bufOf .ready 3 0) { atX1 with xfer := ⟨.armed, 0, 2⟩ }))
    (fun t => t.events == [] && (t.buf 0).own == .free && (t.buf 1).own == .free) = true := by decide

/-- Vectors C12 to C17. -/
theorem test_simple_commands :
  after (exec (.hwrCmd 0x104) State.reset) (fun t => t.ctl.outEn) = true ∧
  after (exec (.reservedCmd 0xFF) State.reset) (fun t => t.err.badCmd) = true ∧
  after (exec .injectLtSuppress State.reset) (fun t => t.err.badState && !t.tmr.ltSupp) = true ∧
  after (exec .injectLtSuppress base) (fun t => t.tmr.ltSupp) = true ∧
  after (exec (.hwrCmd 0xFFFFFF00) State.reset) (· == State.reset) = true ∧
  after (exec (.hwrCmd 0xFFFFFF04) { base with ctl := { base.ctl with outEn := false } }) (fun t => t.ctl.outEn) = true := by
  decide

/-! ### Reset and peripheral input -/

/-- Vectors R1 and R2: RST leaves the reset state but for the draw of the bytes; PERIPH writes one bit. -/
theorem test_rst_and_periph :
  after (exec .rst atX1) (· == { State.reset with draws := 1 }) = true ∧
  after (exec (.periph false) State.reset) (fun t => regValue .status t == 0#32) = true ∧
  after (exec (.periph false) base) (· == { base with ctl := { base.ctl with periph := false } }) = true := by decide

/-- Vectors O1, O2 and O3. -/
theorem test_outputs :
  (hsyncO State.reset, vsyncO State.reset, deO State.reset, rmIrq State.reset) = (true, true, false, false) ∧
  (hsyncO base, vsyncO base, deO base, rmIrq base) = (false, false, false, false) ∧
  (hsyncO atX1, vsyncO atX1, deO atX1, rmIrq atX1) = (true, true, true, false) := by decide

/-! ### States that meet the invariant -/

theorem test_inv_base : Inv base := by
  constructor
  all_goals (first
    | (unfold ParamsInRange; decide)
    | (unfold EngineRuns; decide)
    | (unfold FillIsInService; decide)
    | (unfold TransferHasBuffer; decide)
    | (unfold AtMostOneReady; decide)
    | (unfold DiscardOnlyFilling; decide)
    | (unfold RangesInBounds; decide)
    | (unfold WaitingForCause; decide)
    | (unfold RasterInRange; decide)
    | (unfold ServiceFindsIdle; decide)
    | (unfold ModeAccepted; decide)
    | (unfold TransferInPhase; decide)
    | (unfold OneLineInPreparation; decide)
    | (unfold QuietOutsideRaster; decide)
    | (unfold ResyncIsMarked; decide)
    | (unfold RegionFollowsLine; decide)
    | (unfold StorageOk; decide))

theorem test_inv_atL1 : Inv atL1 := by
  constructor
  all_goals (first
    | (unfold ParamsInRange; decide)
    | (unfold EngineRuns; decide)
    | (unfold FillIsInService; decide)
    | (unfold TransferHasBuffer; decide)
    | (unfold AtMostOneReady; decide)
    | (unfold DiscardOnlyFilling; decide)
    | (unfold RangesInBounds; decide)
    | (unfold WaitingForCause; decide)
    | (unfold RasterInRange; decide)
    | (unfold ServiceFindsIdle; decide)
    | (unfold ModeAccepted; decide)
    | (unfold TransferInPhase; decide)
    | (unfold OneLineInPreparation; decide)
    | (unfold QuietOutsideRaster; decide)
    | (unfold ResyncIsMarked; decide)
    | (unfold RegionFollowsLine; decide)
    | (unfold StorageOk; decide))

theorem test_inv_atL2 : Inv atL2 := by
  constructor
  all_goals (first
    | (unfold ParamsInRange; decide)
    | (unfold EngineRuns; decide)
    | (unfold FillIsInService; decide)
    | (unfold TransferHasBuffer; decide)
    | (unfold AtMostOneReady; decide)
    | (unfold DiscardOnlyFilling; decide)
    | (unfold RangesInBounds; decide)
    | (unfold WaitingForCause; decide)
    | (unfold RasterInRange; decide)
    | (unfold ServiceFindsIdle; decide)
    | (unfold ModeAccepted; decide)
    | (unfold TransferInPhase; decide)
    | (unfold OneLineInPreparation; decide)
    | (unfold QuietOutsideRaster; decide)
    | (unfold ResyncIsMarked; decide)
    | (unfold RegionFollowsLine; decide)
    | (unfold StorageOk; decide))

theorem test_inv_atL6 : Inv atL6 := by
  constructor
  all_goals (first
    | (unfold ParamsInRange; decide)
    | (unfold EngineRuns; decide)
    | (unfold FillIsInService; decide)
    | (unfold TransferHasBuffer; decide)
    | (unfold AtMostOneReady; decide)
    | (unfold DiscardOnlyFilling; decide)
    | (unfold RangesInBounds; decide)
    | (unfold WaitingForCause; decide)
    | (unfold RasterInRange; decide)
    | (unfold ServiceFindsIdle; decide)
    | (unfold ModeAccepted; decide)
    | (unfold TransferInPhase; decide)
    | (unfold OneLineInPreparation; decide)
    | (unfold QuietOutsideRaster; decide)
    | (unfold ResyncIsMarked; decide)
    | (unfold RegionFollowsLine; decide)
    | (unfold StorageOk; decide))

theorem test_inv_atL8 : Inv atL8 := by
  constructor
  all_goals (first
    | (unfold ParamsInRange; decide)
    | (unfold EngineRuns; decide)
    | (unfold FillIsInService; decide)
    | (unfold TransferHasBuffer; decide)
    | (unfold AtMostOneReady; decide)
    | (unfold DiscardOnlyFilling; decide)
    | (unfold RangesInBounds; decide)
    | (unfold WaitingForCause; decide)
    | (unfold RasterInRange; decide)
    | (unfold ServiceFindsIdle; decide)
    | (unfold ModeAccepted; decide)
    | (unfold TransferInPhase; decide)
    | (unfold OneLineInPreparation; decide)
    | (unfold QuietOutsideRaster; decide)
    | (unfold ResyncIsMarked; decide)
    | (unfold RegionFollowsLine; decide)
    | (unfold StorageOk; decide))

theorem test_inv_atB1 : Inv atB1 := by
  constructor
  all_goals (first
    | (unfold ParamsInRange; decide)
    | (unfold EngineRuns; decide)
    | (unfold FillIsInService; decide)
    | (unfold TransferHasBuffer; decide)
    | (unfold AtMostOneReady; decide)
    | (unfold DiscardOnlyFilling; decide)
    | (unfold RangesInBounds; decide)
    | (unfold WaitingForCause; decide)
    | (unfold RasterInRange; decide)
    | (unfold ServiceFindsIdle; decide)
    | (unfold ModeAccepted; decide)
    | (unfold TransferInPhase; decide)
    | (unfold OneLineInPreparation; decide)
    | (unfold QuietOutsideRaster; decide)
    | (unfold ResyncIsMarked; decide)
    | (unfold RegionFollowsLine; decide)
    | (unfold StorageOk; decide))

theorem test_inv_atB3 : Inv atB3 := by
  constructor
  all_goals (first
    | (unfold ParamsInRange; decide)
    | (unfold EngineRuns; decide)
    | (unfold FillIsInService; decide)
    | (unfold TransferHasBuffer; decide)
    | (unfold AtMostOneReady; decide)
    | (unfold DiscardOnlyFilling; decide)
    | (unfold RangesInBounds; decide)
    | (unfold WaitingForCause; decide)
    | (unfold RasterInRange; decide)
    | (unfold ServiceFindsIdle; decide)
    | (unfold ModeAccepted; decide)
    | (unfold TransferInPhase; decide)
    | (unfold OneLineInPreparation; decide)
    | (unfold QuietOutsideRaster; decide)
    | (unfold ResyncIsMarked; decide)
    | (unfold RegionFollowsLine; decide)
    | (unfold StorageOk; decide))

theorem test_inv_atX1 : Inv atX1 := by
  constructor
  all_goals (first
    | (unfold ParamsInRange; decide)
    | (unfold EngineRuns; decide)
    | (unfold FillIsInService; decide)
    | (unfold TransferHasBuffer; decide)
    | (unfold AtMostOneReady; decide)
    | (unfold DiscardOnlyFilling; decide)
    | (unfold RangesInBounds; decide)
    | (unfold WaitingForCause; decide)
    | (unfold RasterInRange; decide)
    | (unfold ServiceFindsIdle; decide)
    | (unfold ModeAccepted; decide)
    | (unfold TransferInPhase; decide)
    | (unfold OneLineInPreparation; decide)
    | (unfold QuietOutsideRaster; decide)
    | (unfold ResyncIsMarked; decide)
    | (unfold RegionFollowsLine; decide)
    | (unfold StorageOk; decide))

theorem test_inv_atX1End : Inv atX1End := by
  constructor
  all_goals (first
    | (unfold ParamsInRange; decide)
    | (unfold EngineRuns; decide)
    | (unfold FillIsInService; decide)
    | (unfold TransferHasBuffer; decide)
    | (unfold AtMostOneReady; decide)
    | (unfold DiscardOnlyFilling; decide)
    | (unfold RangesInBounds; decide)
    | (unfold WaitingForCause; decide)
    | (unfold RasterInRange; decide)
    | (unfold ServiceFindsIdle; decide)
    | (unfold ModeAccepted; decide)
    | (unfold TransferInPhase; decide)
    | (unfold OneLineInPreparation; decide)
    | (unfold QuietOutsideRaster; decide)
    | (unfold ResyncIsMarked; decide)
    | (unfold RegionFollowsLine; decide)
    | (unfold StorageOk; decide))

theorem test_inv_atWaiting : Inv atWaiting := by
  constructor
  all_goals (first
    | (unfold ParamsInRange; decide)
    | (unfold EngineRuns; decide)
    | (unfold FillIsInService; decide)
    | (unfold TransferHasBuffer; decide)
    | (unfold AtMostOneReady; decide)
    | (unfold DiscardOnlyFilling; decide)
    | (unfold RangesInBounds; decide)
    | (unfold WaitingForCause; decide)
    | (unfold RasterInRange; decide)
    | (unfold ServiceFindsIdle; decide)
    | (unfold ModeAccepted; decide)
    | (unfold TransferInPhase; decide)
    | (unfold OneLineInPreparation; decide)
    | (unfold QuietOutsideRaster; decide)
    | (unfold ResyncIsMarked; decide)
    | (unfold RegionFollowsLine; decide)
    | (unfold StorageOk; decide))

theorem test_inv_atRestart : Inv atRestart := by
  constructor
  all_goals (first
    | (unfold ParamsInRange; decide)
    | (unfold EngineRuns; decide)
    | (unfold FillIsInService; decide)
    | (unfold TransferHasBuffer; decide)
    | (unfold AtMostOneReady; decide)
    | (unfold DiscardOnlyFilling; decide)
    | (unfold RangesInBounds; decide)
    | (unfold WaitingForCause; decide)
    | (unfold RasterInRange; decide)
    | (unfold ServiceFindsIdle; decide)
    | (unfold ModeAccepted; decide)
    | (unfold TransferInPhase; decide)
    | (unfold OneLineInPreparation; decide)
    | (unfold QuietOutsideRaster; decide)
    | (unfold ResyncIsMarked; decide)
    | (unfold RegionFollowsLine; decide)
    | (unfold StorageOk; decide))

/-! ### Witnesses: states and operands that meet the hypotheses of the statements -/

theorem test_witness_DecodeOfEncode :
  (Instr.reservedOp 0xFF#8).wellFormed = true ∧ (Instr.reservedCmd 0xFF#8).wellFormed = true ∧
  (Instr.hwr .half 0x0054#16 7).wellFormed = true ∧ (Instr.hrd .byte 0xFFFF#16).wellFormed = true ∧
  (Instr.hwrBuf7 .word 0xFFC#12 7).wellFormed = true := by decide

theorem test_witness_UnusedTxnBitsAreIgnored :
  (∃ w v : BitVec 64, w ≠ v ∧ txnOp w = txnOp v ∧ txnSz w = txnSz v ∧ txnAddr w = txnAddr v ∧ txnData w = txnData v) ∧
  (∃ w v : BitVec 64, w ≠ v ∧ txnOp w = txnOp v ∧ txnOp w = 0x07#8) ∧
  (∃ w v : BitVec 64, w ≠ v ∧ txnOp w = txnOp v ∧ txnOp w = 0x03#8 ∧ txnSz w = txnSz v ∧ txnAddr w = txnAddr v) ∧
  (∃ w v : BitVec 64, w ≠ v ∧ txnOp w = txnOp v ∧ txnOp w = 0x04#8 ∧ txnAddr w = txnAddr v) ∧
  (∃ w v : BitVec 64, w ≠ v ∧ txnOp w = txnOp v ∧ txnOp w = 0x08#8 ∧
    (txnData w).getLsbD 0 = (txnData v).getLsbD 0) ∧
  (∃ c d : Word, c ≠ d ∧ cmdOp c = cmdOp d ∧ cmdOp c = 0x04#8 ∧ cmdEn c = cmdEn d) :=
  ⟨⟨0x02FE000800000002#64, 0x0202000800000002#64, by decide⟩,
   ⟨0x07FFFFFFFFFFFFFF#64, 0x0700000000000000#64, by decide⟩,
   ⟨0x03FE000CFFFFFFFF#64, 0x0302000C00000000#64, by decide⟩,
   ⟨0x04FF0001FFFFFFFF#64, 0x0400000100000000#64, by decide⟩,
   ⟨0x08FFFFFFFFFFFFFF#64, 0x0800000000000001#64, by decide⟩,
   ⟨0xFFFFFF04#32, 0x00000104#32, by decide⟩⟩

theorem test_witness_ReservedCodesAreRefused :
  txnOp 0x0012345678ABCDEF#64 = 0x00#8 ∧ 9 ≤ (txnOp 0x0900000000000000#64).toNat ∧
  9 ≤ (txnOp 0xFFFFFFFFFFFFFFFF#64).toNat := by decide

theorem test_witness_CommandWordPerformsItsCommand :
  cmdOp 0xFFFFFF00#32 = 0x00#8 ∧ cmdOp 0x00000001#32 = 0x01#8 ∧ cmdOp 0x00000002#32 = 0x02#8 ∧
  cmdOp 0x00000003#32 = 0x03#8 ∧ cmdOp 0x00000104#32 = 0x04#8 ∧ cmdOp 0x00000005#32 = 0x05#8 ∧
  6 ≤ (cmdOp 0x00000006#32).toNat ∧ 6 ≤ (cmdOp 0x000000FF#32).toNat := by decide

theorem test_witness_StepRunsScheduledOperation :
  { base with inputs := [.txn 0x0100000000000000#64, .cmd 3#32] }.inputs =
    OpWord.txn 0x0100000000000000#64 :: [.cmd 3#32] ∧ State.reset.inputs = [] := by decide

theorem test_witness_MemoryStaysCanonical :
  Memory.wf { atB1 with mem := [(0x1007, 9#8)] }.mem = true ∧
  ∃ t, exec (.hwrBuf0 .half 6 0xBEEF) { atB1 with mem := [(0x1007, 9#8)] } = .next t ∧
    decide (t.mem = [(0x1006, 0xEF#8), (0x1007, 0xBE#8)]) = true :=
  ⟨by decide, next_of_after (by decide)⟩

theorem test_witness_scheduled_state_meets_Inv : Inv { atL1 with inputs := [.txn 0x0500000000000000#64] } :=
  ⟨test_inv_atL1.params, test_inv_atL1.engine, test_inv_atL1.fill, test_inv_atL1.transfer, test_inv_atL1.oneReady,
   test_inv_atL1.discardFilling, test_inv_atL1.ranges, test_inv_atL1.waiting, test_inv_atL1.raster,
   test_inv_atL1.serviceIdle, test_inv_atL1.accepted, test_inv_atL1.phase, test_inv_atL1.onePreparation,
   test_inv_atL1.quiet, test_inv_atL1.resync, test_inv_atL1.region, test_inv_atL1.storage⟩

theorem test_witness_StepKeepsInvariant :
  Inv { atL1 with inputs := [.txn 0x0500000000000000#64] } ∧ ∃ t, step { atL1 with inputs := [.txn 0x0500000000000000#64] } = .next t ∧
    (t.ln.seq == 2 && t.xfer.xst == .armed) = true :=
  ⟨test_witness_scheduled_state_meets_Inv, next_of_after (by decide)⟩

theorem test_witness_ResetMeetsInvariant :
  Params.default.wf = true ∧ (Params.mk 8 4096 0xFF).wf = true ∧ (Params.mk 2 1 0).wf = true := by decide

theorem test_witness_InvariantStatesNeverFault :
  Inv atX1 ∧ (atX1.xfer.xst == .streaming && decide (1 < atX1.xfer.xlen.toNat)) = true :=
  ⟨test_inv_atX1, by decide⟩

theorem test_witness_ParametersNeverChange :
  ∃ t, step { base with params := ⟨8, 4096, 7⟩, inputs := [.txn 0x0700000000000000#64] } = .next t ∧
    (t.ctl.drv == .uninit) = true :=
  next_of_after (by decide)

theorem test_witness_ModeFixedWhileRastering :
  base.ctl.drv = .rastering ∧ Instr.hwrHtim0 5 ≠ .rst ∧
  ∃ t, exec (.hwrHtim0 5) base = .next t ∧ t.err.badState = true :=
  ⟨by decide, by decide, next_of_after (by decide)⟩

theorem test_witness_BytesChangeOnlyInFillingBuffer :
  (Instr.hwrBuf0 .byte 0 0x55).wellFormed = true ∧ Instr.hwrBuf0 .byte 0 0x55 ≠ .rst ∧
  ∃ t, exec (.hwrBuf0 .byte 0 0x55) { atB1 with mem := [(0x1000, 1#8)] } = .next t ∧
    decide (readByte t 0 0 ≠ readByte { atB1 with mem := [(0x1000, 1#8)] } 0 0) = true :=
  ⟨by decide, by decide, next_of_after (by decide)⟩

theorem test_witness_StreamedBufferIsStable :
  Inv atX1 ∧ atX1.xfer.xst = .streaming ∧ (0x0001#16).toNat < atX1.xfer.xlen.toNat ∧
  Instr.hwrBuf0 .byte 0 0x55 ≠ .rst ∧ ∃ t, exec (.hwrBuf0 .byte 0 0x55) atX1 = .next t ∧ t.err.ownViol = true :=
  ⟨test_inv_atX1, by decide, by decide, by decide, next_of_after (by decide)⟩

theorem test_witness_AtMostOneErrorPerOperation :
  errBit base .badAccess = false ∧
  ∃ t, exec .hwrSz3 base = .next t ∧ errBit t .badAccess = true :=
  ⟨by decide, next_of_after (by decide)⟩

theorem test_witness_ErrorBitsStickUntilCleared :
  errBit { base with err := ⟨true, false, false, false, false, true⟩ } .badState = true ∧
  errBit { base with err := ⟨true, false, false, false, false, true⟩ } .badAccess = true ∧
  (∃ t, exec (.hwrErr 0x100) { base with err := ⟨true, false, false, false, false, true⟩ } = .next t ∧
    (!errBit t .badState && errBit t .badAccess) = true) ∧
  ∃ t, exec (.hwrErr 0x2000) { base with err := ⟨true, false, false, false, false, true⟩ } = .next t ∧
    (errBit t .badState && !errBit t .badAccess) = true :=
  ⟨by decide, by decide, next_of_after (by decide), next_of_after (by decide)⟩

theorem test_witness_HandlersAndTimersRaiseNothing :
  (∃ t, exec .tick base = .next t ∧ (t.tmr.ltCnt == 1) = true) ∧
  (∃ t, exec .ltsvc atL1 = .next t ∧ (t.ln.line == 2) = true) ∧
  (∃ t, exec .sasvc (atShock 10) = .next t ∧ (!t.tmr.saPend) = true) ∧
  (∃ t, exec (.drd 0xFFFF) atX1 = .next t ∧ (t.events == [.dmaData 0]) = true) ∧
  ∃ t, exec (.periph false) base = .next t ∧ (!t.ctl.periph) = true :=
  ⟨next_of_after (by decide), next_of_after (by decide), next_of_after (by decide), next_of_after (by decide),
   next_of_after (by decide)⟩

theorem test_witness_OwnershipMovesByRule :
  (Inv atL1 ∧ Instr.ltsvc ≠ .rst ∧ ∃ t, exec .ltsvc atL1 = .next t ∧
    ((t.buf 0).own == .xfer && (atL1.buf 0).own == .ready && (t.buf 1).own == .filling &&
      (atL1.buf 1).own == .free) = true) ∧
  (Inv atB1 ∧ Instr.hwrRmDone 1 ≠ .rst ∧ ∃ t, exec (.hwrRmDone 1) atB1 = .next t ∧
    ((t.buf 0).own == .ready && (atB1.buf 0).own == .filling && !(atB1.buf 0).discard) = true) ∧
  (Inv atX1End ∧ Instr.tick ≠ .rst ∧ ∃ t, exec .tick atX1End = .next t ∧
    ((t.buf 0).own == .free && (atX1End.buf 0).own == .xfer) = true) ∧
  (Inv atX1 ∧ ∃ t, exec (.hwrCmd 3) atX1 = .next t ∧ ((t.buf 0).own == .free && (atX1.buf 0).own == .xfer) = true) ∧
  (Inv atL1 ∧ Instr.stop ≠ .rst ∧ ∃ t, exec .stop atL1 = .next t ∧
    ((t.buf 0).own == .free && (atL1.buf 0).own == .ready) = true) :=
  ⟨⟨test_inv_atL1, by decide, next_of_after (by decide)⟩, ⟨test_inv_atB1, by decide, next_of_after (by decide)⟩,
   ⟨test_inv_atX1End, by decide, next_of_after (by decide)⟩, ⟨test_inv_atX1, next_of_after (by decide)⟩,
   ⟨test_inv_atL1, by decide, next_of_after (by decide)⟩⟩

theorem test_witness_ControlFieldsHaveOneWriter :
  (∃ t, exec (.setOutput false) base = .next t ∧ decide (t.ctl.outEn ≠ base.ctl.outEn) = true) ∧
  (∃ t, exec (.hwrCmd 0x004) base = .next t ∧ decide (t.ctl.outEn ≠ base.ctl.outEn) = true) ∧
  (∃ t, exec (.periph false) base = .next t ∧ decide (t.ctl.periph ≠ base.ctl.periph) = true) ∧
  (∃ t, exec .configure State.reset = .next t ∧ decide (t.ctl.cfgErr ≠ State.reset.ctl.cfgErr) = true) ∧
  ∃ t, exec (.hwrCmd 1) State.reset = .next t ∧ decide (t.ctl.cfgErr ≠ State.reset.ctl.cfgErr) = true :=
  ⟨next_of_after (by decide), next_of_after (by decide), next_of_after (by decide), next_of_after (by decide),
   next_of_after (by decide)⟩

theorem test_witness_LevelOutputsFollowState :
  (base.ctl.drv = .rastering ∧ (atCount 1).tmr.ltCnt.toNat < (atCount 1).mode.hsEnd.toNat) ∧
  ¬((atCount 2).ctl.drv = .rastering ∧ (atCount 2).tmr.ltCnt.toNat < (atCount 2).mode.hsEnd.toNat) ∧
  base.ln.region = .vsync ∧ ¬(atL1.ctl.drv = .rastering ∧ atL1.ln.region = .vsync) := by decide

theorem test_witness_TickOutsideRasteringOnlyDispatches :
  State.reset.ctl.drv ≠ .rastering ∧ (inDrv .configured m6).ctl.drv ≠ .rastering ∧
  (inDrv .stopped m6).ctl.drv ≠ .rastering := by decide

theorem test_witness_TickAdvancesTimers :
  (atCount 19).ctl.drv = .rastering ∧
  (atCount 19).tmr.ltCnt.toNat + 1 = (atCount 19).mode.tLine.toNat ∧
  (atCount 18).tmr.ltCnt.toNat + 1 ≠ (atCount 18).mode.tLine.toNat ∧
  (atCount 19).tmr.saDivCnt.toNat + 1 = (atCount 19).mode.saDiv.toNat ∧
  { atCount 19 with mode := { m6 with saDiv := 2 } }.tmr.saDivCnt.toNat + 1 ≠
    { atCount 19 with mode := { m6 with saDiv := 2 } }.mode.saDiv.toNat ∧
  { atCount 19 with tmr := ⟨19, 0, 0, true, false, true, 255, false⟩ }.tmr.ltSupp = true ∧
  (atCount 19).tmr.ltSupp = false ∧ atL1.tmr.ltSupp = false ∧ atL1.tmr.ltPend = true ∧
  (atCount 19).tmr.ltPend = false := by decide

theorem test_witness_TickRunsActiveVideo :
  base.ctl.drv = .rastering ∧ base.mode.bpEnd ≠ base.mode.actEnd ∧ base.rm.pend = false ∧
  (atWaiting.ctl.drv = .rastering ∧ atWaiting.rm.pend = true ∧ atWaiting.rm.busy = true ∧
    atWaiting.xfer.xst = .streaming ∧ atWaiting.tmr.ltCnt + 1 = atWaiting.mode.actEnd) ∧
  after (exec .tick { setBuf 0 (bufOf .xfer 2 1) (atCount 4) with xfer := ⟨.armed, 0, 1⟩ })
    (fun t => t.tmr.ltCnt == t.mode.bpEnd) = true ∧
  after (exec .tick { setBuf 0 (bufOf .xfer 2 1) (atCount 5) with xfer := ⟨.streaming, 0, 1⟩ })
    (fun t => t.tmr.ltCnt != t.mode.actEnd && t.tmr.ltCnt != t.mode.bpEnd) = true := by decide

/-- At `ACT_END` with a request waiting behind a fill in service, the transfer ends and the request goes on waiting (R158,
R232). -/
theorem test_tick_ends_video_while_request_waits :
  after (exec .tick atWaiting) (fun t => t.events == [.dmaStop 0] && (t.buf 0).own == .free &&
    t.rm == atWaiting.rm) = true := by decide

theorem test_witness_ServicesNeedTheGrant :
  (atL1.ctl.drv = .rastering ∧ atL1.tmr.ltPend = true) ∧
  ¬(base.ctl.drv = .rastering ∧ base.tmr.ltPend = true) ∧
  ((atShock 10).ctl.drv = .rastering ∧ (atShock 10).tmr.saPend = true ∧ (atShock 10).tmr.ltPend = false) ∧
  ¬(atL1.ctl.drv = .rastering ∧ atL1.tmr.saPend = true ∧ atL1.tmr.ltPend = false) := by decide

theorem test_witness_LineServiceAdvancesLines :
  (atL1.ctl.drv = .rastering ∧ atL1.tmr.ltPend = true ∧ atL1.ln.line.toNat < atL1.mode.lTotal.toNat) ∧
  (atL6.ctl.drv = .rastering ∧ atL6.tmr.ltPend = true ∧ atL6.ln.line.toNat + 1 = atL6.mode.lTotal.toNat) ∧
  (atL8.tmr.ltPend = true ∧ atL8.tmr.resyncReq = true ∧ atL8.ln.line.toNat < atL8.mode.lTotal.toNat) := by decide

theorem test_witness_LineServiceAccountsMisses :
  (atL8.ctl.drv = .rastering ∧ atL8.tmr.ltPend = true ∧ atL8.ln.line.toNat < atL8.mode.lTotal.toNat ∧
    atL8.mode.lVis.toNat < atL8.mode.lTotal.toNat) ∧
  1 = ((List.range (if atL8.tmr.resyncReq then atL8.tmr.ltLost.toNat else 0)).filter fun j =>
    atL8.mode.lTotal.toNat - atL8.mode.lVis.toNat ≤ (atL8.ln.line.toNat + 1 + j) % atL8.mode.lTotal.toNat).length ∧
  ∃ t, exec .ltsvc atL8 = .next t ∧ (t.ln.region == .visible && t.ln.missCnt == 2 &&
    (bufIndices.all fun b => !((atL8.buf b).own == .ready && (atL8.buf b).tag == t.ln.seq))) = true :=
  ⟨by decide, by decide, next_of_after (by decide)⟩

theorem test_witness_LineServiceSettles :
  (atL8.ctl.drv = .rastering ∧ atL8.tmr.ltPend = true ∧ atL8.mode.lVis.toNat < atL8.mode.lTotal.toNat) ∧
  (∃ t, exec .ltsvc atL8 = .next t ∧ (t.ln.region == .visible) = true) ∧
  (∃ t, exec .ltsvc atL6 = .next t ∧ (t.ln.region == .vsync) = true) :=
  ⟨by decide, next_of_after (by decide), next_of_after (by decide)⟩

theorem test_witness_LineServiceArmsOrLeavesBlank :
  (Inv atL1 ∧ atL1.ctl.drv = .rastering ∧ atL1.tmr.ltPend = true ∧ (atL1.buf 0).own = .ready ∧
    atL1.tmr.ltCnt.toNat < atL1.mode.bpEnd.toNat ∧ atL1.ctl.outEn = true ∧
    ∃ t, exec .ltsvc atL1 = .next t ∧ ((atL1.buf 0).tag == t.ln.seq && t.ln.region == .visible) = true) ∧
  (Inv atL2 ∧ atL2.ctl.drv = .rastering ∧ atL2.tmr.ltPend = true ∧ ∀ b : Fin 8, (atL2.buf b).own ≠ .ready) :=
  ⟨⟨test_inv_atL1, by decide, by decide, by decide, by decide, by decide, next_of_after (by decide)⟩,
   ⟨test_inv_atL2, by decide, by decide, by decide⟩⟩

theorem test_witness_LineServiceWithdrawsStaleWork :
  (Inv atL2 ∧ atL2.ctl.drv = .rastering ∧ atL2.tmr.ltPend = true ∧ (atL2.buf 1).own = .filling) ∧
  (Inv atL8 ∧ atL8.ctl.drv = .rastering ∧ atL8.tmr.ltPend = true ∧ (atL8.buf 1).own = .ready ∧
    ∃ t, exec .ltsvc atL8 = .next t ∧ ((atL8.buf 1).tag != t.ln.seq) = true) :=
  ⟨⟨test_inv_atL2, by decide, by decide, by decide⟩,
   ⟨test_inv_atL8, by decide, by decide, by decide, next_of_after (by decide)⟩⟩

theorem test_witness_LineServiceRequestsNextLine :
  (Inv atL1 ∧ ∃ t, exec .ltsvc atL1 = .next t ∧ (t.ln.line == 2 && !t.rm.pend && t.rm.busy) = true) ∧
  (Inv atL2 ∧ ∃ t, exec .ltsvc atL2 = .next t ∧ (t.ln.line == 3 && t.rm.pend && t.rm.busy) = true) ∧
  (Inv atL6 ∧ ∃ t, exec .ltsvc atL6 = .next t ∧ (t.ln.line == 0 && !t.rm.pend && !t.rm.busy) = true) :=
  ⟨⟨test_inv_atL1, next_of_after (by decide)⟩, ⟨test_inv_atL2, next_of_after (by decide)⟩,
   ⟨test_inv_atL6, next_of_after (by decide)⟩⟩

theorem test_witness_ShockServiceDetectsDivergence :
  ((atShock 10).ctl.drv = .rastering ∧ (atShock 10).tmr.saPend = true ∧ (atShock 10).tmr.ltPend = false) ∧
  { atShock 10 with tmr := { (atShock 10).tmr with ltLost := 1 } }.tmr.ltLost ≠ 0 ∧
  (atShock 11).tmr.ltCnt.toNat < (atShock 11).tmr.wdCnt.toNat ∧
  (atShock 6).tmr.wdCnt.toNat + (atShock 6).mode.saTol.toNat < (atShock 6).tmr.ltCnt.toNat ∧
  ¬((atShock 7).tmr.ltLost ≠ 0 ∨ (atShock 7).tmr.ltCnt.toNat < (atShock 7).tmr.wdCnt.toNat ∨
    (atShock 7).tmr.wdCnt.toNat + (atShock 7).mode.saTol.toNat < (atShock 7).tmr.ltCnt.toNat) := by decide

theorem test_witness_DispatchServesWaitingRequest :
  (atRequest.rm.pend = true ∧ atRequest.rm.busy = false ∧ (1 : Fin 8).val < atRequest.params.nbuf ∧
    (atRequest.buf 1).own = .free ∧ ∀ c : Fin 8, c < 1 → (atRequest.buf c).own ≠ .free) ∧
  base.rm.pend = false ∧ atB3.rm.busy = true ∧
  (atNoneFree.rm.pend = true ∧ atNoneFree.rm.busy = false ∧
    ∀ b : Fin 8, b.val < atNoneFree.params.nbuf → (atNoneFree.buf b).own ≠ .free) := by decide

theorem test_witness_ReadsHaveNoSideEffects :
  Inv atX1 ∧ Instr.hrdStatus = Instr.ofRead .status ∧ Instr.hrdBufline7 = Instr.ofRead (.bufline 7) ∧
  Instr.hrdBuf7 .word 0xFFC = Instr.ofWindowRead .word 0xFFC 7 :=
  ⟨test_inv_atX1, by decide, by decide, by decide⟩

theorem test_witness_RmDoneEndsFill :
  atB1.rm.busy = true ∧ (atB1.buf atB1.rm.buf).discard = false ∧ atB3.rm.busy = true ∧
  (atB3.buf atB3.rm.buf).discard = true ∧ base.rm.busy = false := by decide

theorem test_witness_RmDoneWithoutFillChangesNoBuffer : WaitingForCause base ∧ base.rm.busy = false :=
  ⟨test_inv_base.waiting, by decide⟩

theorem test_witness_WindowWriteStoresLittleEndian :
  ((0 : Fin 8).val < atB1.params.nbuf ∧ (0x31C#12).toNat % Size.word.bytes = 0 ∧
    (0x31C#12).toNat + Size.word.bytes ≤ atB1.params.bufBytes ∧ (atB1.buf 0).own = .filling) ∧
  ((0x31E#12).toNat % Size.half.bytes = 0 ∧ (0x31E#12).toNat + Size.half.bytes ≤ atB1.params.bufBytes) ∧
  (0x31F#12).toNat + Size.byte.bytes ≤ atB1.params.bufBytes := by decide

theorem test_witness_DmaReadReturnsStreamedByte :
  ¬(atX1.xfer.xst = .streaming ∧ (2#16).toNat < atX1.xfer.xlen.toNat) ∧
  ¬(base.xfer.xst = .streaming ∧ (0#16).toNat < base.xfer.xlen.toNat) ∧
  (atX1.xfer.xst = .streaming ∧ (1#16).toNat < atX1.xfer.xlen.toNat ∧ atX1.xfer.xbuf.val < atX1.params.nbuf ∧
    (1#16).toNat < atX1.params.bufBytes) ∧
  ¬({ atX1 with xfer := ⟨.streaming, 2, 2⟩ }.xfer.xbuf.val < atX1.params.nbuf ∧
    (1#16).toNat < atX1.params.bufBytes) := by decide

theorem test_witness_RegisterReadsReturnTheirValue :
  (1 : Fin 8).val < State.reset.params.nbuf ∧ ¬(2 : Fin 8).val < State.reset.params.nbuf ∧
  ¬(7 : Fin 8).val < State.reset.params.nbuf := by decide

theorem test_witness_RegisterFieldsAreWhereTheMapSays :
  State.reset.params.wf = true ∧ { State.reset with params := ⟨8, 4096, 0⟩ }.params.wf = true := by decide

theorem test_witness_ReadOnlyRegistersRefuseWrites :
  Instr.hwrTimer 5 = Instr.ofWrite 5 .timer ∧ Instr.hwrBufstat0 5 = Instr.ofWrite 5 (.bufstat 0) ∧
  Instr.hwrBufline7 5 = Instr.ofWrite 5 (.bufline 7) := by decide

theorem test_witness_ModeWriteReadsBack :
  HostReg.saTol ∈ [HostReg.htim0, .htim1, .vtim0, .vtim1, .syncSa, .saTol] ∧ State.reset.ctl.drv ≠ .rastering ∧
  (inDrv .configured m6).ctl.drv ≠ .rastering ∧ (inDrv .stopped m6).ctl.drv ≠ .rastering := by decide

theorem test_witness_ModeWriteRefusedWhileRastering :
  HostReg.htim0 ∈ [HostReg.htim0, .htim1, .vtim0, .vtim1, .syncSa, .saTol] ∧ base.ctl.drv = .rastering := by decide

theorem test_witness_BadHostAccessesAreRefused :
  ((0x00FF#16).toNat < 0x100 ∧ (0x00FF#16).toNat % 4 ≠ 0) ∧
  ((0x00FC#16).toNat < 0x100 ∧ HostReg.ofOffset? 0x00FC#16 = none) ∧
  (0x100 ≤ (0x0100#16).toNat ∧ (0x0FFF#16).toNat < 0x1000) ∧ 0x9000 ≤ (0x9000#16).toNat ∧
  (Instr.hwr .byte 0x0000#16 0).wellFormed = true := by decide

theorem test_witness_ConfigureChecksInOrder :
  base.ctl.drv = .rastering ∧ (inDrv .stopped m6).ctl.drv ≠ .rastering ∧ modeOk m6 = true ∧
  modeOk { m6 with hsEnd := 5 } = false ∧ { Control.reset with periph := false }.periph = false ∧
  Control.reset.periph = true := by decide

theorem test_witness_ModeCheckIsTheRule :
  modeOk m6 = true ∧ modeOk { m6 with vsEnd := 2 } = true ∧ modeOk { m6 with vsEnd := 3 } = false ∧
  modeOk { m6 with saPhase := 19 } = true ∧ modeOk { m6 with saPhase := 20 } = false ∧
  modeOk { m6 with lVis := 6 } = false := by decide

theorem test_witness_StartBeginsARaster :
  State.reset.ctl.drv = .uninit ∧ base.ctl.drv = .rastering ∧
  ((inDrv .configured m6).ctl.drv = .configured ∧ m6.lTotal.toNat ≠ m6.lVis.toNat + 1) ∧
  ((inDrv .stopped m5).ctl.drv = .stopped ∧ m5.lTotal.toNat = m5.lVis.toNat + 1 ∧
    (inDrv .stopped m5).rm.busy = false ∧ ((inDrv .stopped m5).buf 0).own = .free) ∧
  (atRestart.ctl.drv = .stopped ∧ atRestart.mode.lTotal.toNat = atRestart.mode.lVis.toNat + 1 ∧
    atRestart.rm.busy = true ∧ (atRestart.buf 1).own = .filling ∧ (atRestart.buf 1).discard = true) ∧
  ∀ b : Fin 8, b.val < atNoBuffer.params.nbuf → (atNoBuffer.buf b).own ≠ .free ∧ (atNoBuffer.buf b).own ≠ .ready := by
  decide

/-- START in M5 after a STOP: with a fill in service its buffer keeps the discard mark and the request waits, and with no
free buffer it waits too (R285, R232). -/
theorem test_start_request_waits :
  after (exec .start atRestart) (fun t => t.bufs == atRestart.bufs && t.rm == ⟨true, 1, 0, true, 1, 0⟩ &&
    t.events == []) = true ∧
  after (exec .start atNoBuffer) (fun t => t.bufs == atNoBuffer.bufs && t.rm == ⟨false, 0, 0, true, 1, 0⟩ &&
    t.events == []) = true := by decide

theorem test_witness_StopEndsTheRaster :
  State.reset.ctl.drv ≠ .rastering ∧ atX1.ctl.drv = .rastering ∧ atX1.xfer.xst = .streaming ∧
  atB1.ctl.drv = .rastering ∧ (atB1.buf 0).own = .filling ∧ (atL1.buf 0).own = .ready := by decide

theorem test_witness_SimpleOperationsDoOneThing :
  base.ctl.drv = .rastering ∧ State.reset.ctl.drv ≠ .rastering := by decide

theorem test_witness_LockStep : LockStep base :=
  ⟨test_inv_base, by decide, by decide, by decide, by decide, by decide, by decide, by decide⟩

theorem test_witness_IdealTicksKeepRealTime :
  LockStep base ∧ 6 = (base.tmr.ltCnt.toNat + 120) / base.mode.tLine.toNat :=
  ⟨test_witness_LockStep, by decide⟩

theorem test_witness_LostFiringIsCaughtUp :
  LockStep base ∧ 2 = (base.tmr.ltCnt.toNat + 40) / base.mode.tLine.toNat ∧ base.mode.saDiv.toNat + 1 ≤ 2 :=
  ⟨test_witness_LockStep, by decide, by decide⟩

end Sys2Proof.Tests
end

section
/-! PROOF. What a step does with the schedule (00_scope.md R2, R19): the equation for an empty schedule beside
`step_cons`, and the obligation on the step. -/

namespace Sys2Proof.Machine

/-- With nothing scheduled there is no step (R19; log entry 4). -/
theorem step_nil (s : State) (h : s.inputs = []) : step s = .refused .noOperation := by simp [step, h]

/-- Settles O9: the two shapes of the schedule, `beginStep` being the state that `exec` is handed. -/
theorem stepRunsScheduledOperation : Obligations.StepRunsScheduledOperation :=
  ⟨step_cons, step_nil⟩

end Sys2Proof.Machine
end

section
/-! PROOF. The rows of the opcode table by target: every operation is one of the named ones, an access of a register, or
an access of a buffer window (30_encoding.md R115), and the rows of one target share one meaning. -/

namespace Sys2Proof

/-- A property of operations that holds of the named operations, of every register access and of every window access holds
of every operation. -/
theorem Instr.byTarget {P : Instr → Prop} (tick : P .tick) (hwr : ∀ n a d, P (.hwr n a d)) (hrd : ∀ n a, P (.hrd n a))
    (drd : ∀ o, P (.drd o)) (ltsvc : P .ltsvc) (sasvc : P .sasvc) (rst : P .rst) (periph : ∀ v, P (.periph v))
    (reservedOp : ∀ c, P (.reservedOp c)) (hwrSz3 : P .hwrSz3) (hrdSz3 : P .hrdSz3)
    (ofWrite : ∀ d r, P (Instr.ofWrite d r)) (ofRead : ∀ r, P (Instr.ofRead r))
    (ofWindowWrite : ∀ n o d b, P (Instr.ofWindowWrite n o d b)) (ofWindowRead : ∀ n o b, P (Instr.ofWindowRead n o b))
    (nop : P .nop) (configure : P .configure) (start : P .start) (stop : P .stop) (setOutput : ∀ v, P (.setOutput v))
    (injectLtSuppress : P .injectLtSuppress) (reservedCmd : ∀ c, P (.reservedCmd c)) : ∀ i, P i
  | .tick => tick
  | .hwr n a d => hwr n a d
  | .hrd n a => hrd n a
  | .drd o => drd o
  | .ltsvc => ltsvc
  | .sasvc => sasvc
  | .rst => rst
  | .periph v => periph v
  | .reservedOp c => reservedOp c
  | .hwrSz3 => hwrSz3
  | .hrdSz3 => hrdSz3
  | .hwrId d => ofWrite d .id
  | .hrdId => ofRead .id
  | .hwrParam d => ofWrite d .param
  | .hrdParam => ofRead .param
  | .hwrCmd d => ofWrite d .cmd
  | .hrdCmd => ofRead .cmd
  | .hwrStatus d => ofWrite d .status
  | .hrdStatus => ofRead .status
  | .hwrErr d => ofWrite d .err
  | .hrdErr => ofRead .err
  | .hwrRmReq d => ofWrite d .rmReq
  | .hrdRmReq => ofRead .rmReq
  | .hwrRmDone d => ofWrite d .rmDone
  | .hrdRmDone => ofRead .rmDone
  | .hwrHtim0 d => ofWrite d .htim0
  | .hrdHtim0 => ofRead .htim0
  | .hwrHtim1 d => ofWrite d .htim1
  | .hrdHtim1 => ofRead .htim1
  | .hwrVtim0 d => ofWrite d .vtim0
  | .hrdVtim0 => ofRead .vtim0
  | .hwrVtim1 d => ofWrite d .vtim1
  | .hrdVtim1 => ofRead .vtim1
  | .hwrSyncSa d => ofWrite d .syncSa
  | .hrdSyncSa => ofRead .syncSa
  | .hwrSaTol d => ofWrite d .saTol
  | .hrdSaTol => ofRead .saTol
  | .hwrLine d => ofWrite d .line
  | .hrdLine => ofRead .line
  | .hwrFrame d => ofWrite d .frame
  | .hrdFrame => ofRead .frame
  | .hwrSeq d => ofWrite d .seq
  | .hrdSeq => ofRead .seq
  | .hwrCnt d => ofWrite d .cnt
  | .hrdCnt => ofRead .cnt
  | .hwrWdog d => ofWrite d .wdog
  | .hrdWdog => ofRead .wdog
  | .hwrTimer d => ofWrite d .timer
  | .hrdTimer => ofRead .timer
  | .hwrBufstat0 d => ofWrite d (.bufstat 0)
  | .hrdBufstat0 => ofRead (.bufstat 0)
  | .hwrBuftag0 d => ofWrite d (.buftag 0)
  | .hrdBuftag0 => ofRead (.buftag 0)
  | .hwrBufline0 d => ofWrite d (.bufline 0)
  | .hrdBufline0 => ofRead (.bufline 0)
  | .hwrBufstat1 d => ofWrite d (.bufstat 1)
  | .hrdBufstat1 => ofRead (.bufstat 1)
  | .hwrBuftag1 d => ofWrite d (.buftag 1)
  | .hrdBuftag1 => ofRead (.buftag 1)
  | .hwrBufline1 d => ofWrite d (.bufline 1)
  | .hrdBufline1 => ofRead (.bufline 1)
  | .hwrBufstat2 d => ofWrite d (.bufstat 2)
  | .hrdBufstat2 => ofRead (.bufstat 2)
  | .hwrBuftag2 d => ofWrite d (.buftag 2)
  | .hrdBuftag2 => ofRead (.buftag 2)
  | .hwrBufline2 d => ofWrite d (.bufline 2)
  | .hrdBufline2 => ofRead (.bufline 2)
  | .hwrBufstat3 d => ofWrite d (.bufstat 3)
  | .hrdBufstat3 => ofRead (.bufstat 3)
  | .hwrBuftag3 d => ofWrite d (.buftag 3)
  | .hrdBuftag3 => ofRead (.buftag 3)
  | .hwrBufline3 d => ofWrite d (.bufline 3)
  | .hrdBufline3 => ofRead (.bufline 3)
  | .hwrBufstat4 d => ofWrite d (.bufstat 4)
  | .hrdBufstat4 => ofRead (.bufstat 4)
  | .hwrBuftag4 d => ofWrite d (.buftag 4)
  | .hrdBuftag4 => ofRead (.buftag 4)
  | .hwrBufline4 d => ofWrite d (.bufline 4)
  | .hrdBufline4 => ofRead (.bufline 4)
  | .hwrBufstat5 d => ofWrite d (.bufstat 5)
  | .hrdBufstat5 => ofRead (.bufstat 5)
  | .hwrBuftag5 d => ofWrite d (.buftag 5)
  | .hrdBuftag5 => ofRead (.buftag 5)
  | .hwrBufline5 d => ofWrite d (.bufline 5)
  | .hrdBufline5 => ofRead (.bufline 5)
  | .hwrBufstat6 d => ofWrite d (.bufstat 6)
  | .hrdBufstat6 => ofRead (.bufstat 6)
  | .hwrBuftag6 d => ofWrite d (.buftag 6)
  | .hrdBuftag6 => ofRead (.buftag 6)
  | .hwrBufline6 d => ofWrite d (.bufline 6)
  | .hrdBufline6 => ofRead (.bufline 6)
  | .hwrBufstat7 d => ofWrite d (.bufstat 7)
  | .hrdBufstat7 => ofRead (.bufstat 7)
  | .hwrBuftag7 d => ofWrite d (.buftag 7)
  | .hrdBuftag7 => ofRead (.buftag 7)
  | .hwrBufline7 d => ofWrite d (.bufline 7)
  | .hrdBufline7 => ofRead (.bufline 7)
  | .hwrBuf0 n o d => ofWindowWrite n o d 0
  | .hrdBuf0 n o => ofWindowRead n o 0
  | .hwrBuf1 n o d => ofWindowWrite n o d 1
  | .hrdBuf1 n o => ofWindowRead n o 1
  | .hwrBuf2 n o d => ofWindowWrite n o d 2
  | .hrdBuf2 n o => ofWindowRead n o 2
  | .hwrBuf3 n o d => ofWindowWrite n o d 3
  | .hrdBuf3 n o => ofWindowRead n o 3
  | .hwrBuf4 n o d => ofWindowWrite n o d 4
  | .hrdBuf4 n o => ofWindowRead n o 4
  | .hwrBuf5 n o d => ofWindowWrite n o d 5
  | .hrdBuf5 n o => ofWindowRead n o 5
  | .hwrBuf6 n o d => ofWindowWrite n o d 6
  | .hrdBuf6 n o => ofWindowRead n o 6
  | .hwrBuf7 n o d => ofWindowWrite n o d 7
  | .hrdBuf7 n o => ofWindowRead n o 7
  | .nop => nop
  | .configure => configure
  | .start => start
  | .stop => stop
  | .setOutput v => setOutput v
  | .injectLtSuppress => injectLtSuppress
  | .reservedCmd c => reservedCmd c

end Sys2Proof

namespace Sys2Proof.Machine

theorem exec_ofRead (r : HostReg) (s : State) : exec (Instr.ofRead r) s = readReg r s := by
  cases r with
  | bufstat b => fin_cases b <;> rfl
  | buftag b => fin_cases b <;> rfl
  | bufline b => fin_cases b <;> rfl
  | _ => rfl

theorem exec_ofWrite (d : Word) (r : HostReg) (s : State) : exec (Instr.ofWrite d r) s = writeReg r d s := by
  cases r with
  | bufstat b => fin_cases b <;> rfl
  | buftag b => fin_cases b <;> rfl
  | bufline b => fin_cases b <;> rfl
  | _ => rfl

theorem exec_ofWindowRead (n : Size) (o : BitVec 12) (b : Fin 8) (s : State) :
    exec (Instr.ofWindowRead n o b) s = readWindow b n o s := by fin_cases b <;> rfl

theorem exec_ofWindowWrite (n : Size) (o : BitVec 12) (d : Word) (b : Fin 8) (s : State) :
    exec (Instr.ofWindowWrite n o d b) s = writeWindow b n o d s := by fin_cases b <;> rfl

/-- A write to CMD is the command its word spells (R120, R279; log entry 7). -/
theorem exec_hwrCmd (d : Word) (s : State) : exec (.hwrCmd d) s = exec (decodeCmd d) s := by
  show Host.Outcome.next (dispatchFill (cmdWrite d s)) = _
  unfold cmdWrite decodeCmd
  split_ifs <;> rfl

/-! ### Plain rows of HWR -/

theorem inWindow_not_low (a : Addr) (h : inWindow a = true) : ¬ a.toNat < 0x100 := by
  simp only [inWindow, Bool.and_eq_true, decide_eq_true_eq] at h
  omega

/-- A plain HWR spelled for a target that has a row of its own means what that row means (R115, R272; log entry 9). -/
theorem exec_hwr_covered (n : Size) (a : Addr) (d : Word) (s : State) (h : coveredTarget n a = true) :
    exec (.hwr n a d) s = exec (decodeHwr n.code a d) s := by
  show Host.Outcome.next (hostWrite n.code a d s) = _
  cases hw : inWindow a with
  | true =>
    have hlow := inWindow_not_low a hw
    cases hb : s.hasBuf (windowBuf a) with
    | false => simp [decodeHwr, hostWrite, hw, hlow, exec_ofWindowWrite, writeWindow, windowWrite, hb]
    | true =>
      cases hc : windowCheck (windowBuf a) (windowOff a) n s <;>
        simp [decodeHwr, hostWrite, hw, hlow, exec_ofWindowWrite, writeWindow, windowWrite, hb, hc]
  | false =>
    simp only [coveredTarget, hw, Bool.false_or, Bool.and_eq_true, decide_eq_true_eq, Option.isSome_iff_exists] at h
    obtain ⟨rfl, r, hr⟩ := h
    obtain ⟨hlow, halign⟩ := HostReg.offset_of_ofOffset? a r hr ▸ r.offset_low
    cases hm : regMapped r s <;>
      simp [decodeHwr, hostWrite, hw, hlow, halign, hr, mappedReg, hm, exec_ofWrite, writeReg]

/-- A plain HWR to any other target is a refused access (20_memory.md R86, R87). -/
theorem exec_hwr_uncovered (n : Size) (a : Addr) (d : Word) (s : State) (h : coveredTarget n a = false) :
    exec (.hwr n a d) s = .next (dispatchFill (raise .badAccess s)) := by
  show Host.Outcome.next (hostWrite n.code a d s) = _
  simp only [coveredTarget, Bool.or_eq_false_iff, Bool.and_eq_false_iff, decide_eq_false_iff_not] at h
  obtain ⟨hw, hn | hr⟩ := h
  · simp [hostWrite, hw, hn]
  · have hm : mappedReg a s = none := by simp_all [mappedReg]
    simp [hostWrite, hw, hm]

end Sys2Proof.Machine
end

section
/-! PROOF. What an operation can do, said once: the effect it leaves before its final Dispatch (42_buffer_controller.md
R232), for every operation but RST. -/

namespace Sys2Proof.Machine

/-- The state LTSVC leaves before its Dispatch (R160). -/
def servedLine (s : State) : State :=
  settleService s.tmr.resyncReq
    (accountMiss (lineMissed (enterLine s)) (serviceProgress s).skippedVis s.tmr.resyncReq
      (requestNext (armLine (enterLine s))))

theorem lineService_eq (s : State) : lineService s = dispatchFill (servedLine s) := rfl

/-- SASVC takes its firing (R200). -/
def takeShock (s : State) : State := { s with tmr := { s.tmr with saPend := false } }

/-- The state SASVC leaves before its Dispatch (R200). -/
def servedShock (s : State) : State := if diverged (takeShock s) then requestResync (takeShock s) else takeShock s

theorem shockService_eq (s : State) : shockService s = dispatchFill (servedShock s) := rfl

/-- `Effect s i u`: operation `i`, not RST, taken in state `s`, may leave `u` before its final Dispatch. Two rows mean what
another row means: a write to CMD, and a plain HWR spelled for the target of a more specific row. -/
inductive Effect (s : State) : Instr → State → Prop
  /-- Reads, refused accesses and commands, writes to ERR, and what does nothing. -/
  | report (i : Instr) (err : ErrBits) (evs : List Event) : Effect s i { s with err := err, events := evs }
  | tick (h : s.ctl.drv = .rastering) : Effect s .tick (endVideo (startVideo (tickTimers s)))
  | ltsvc (h : lineServiceEnabled s = true) : Effect s .ltsvc (servedLine s)
  | sasvc (h : shockServiceEnabled s = true) : Effect s .sasvc (servedShock s)
  | periph (v : Bool) : Effect s (.periph v) { s with ctl := { s.ctl with periph := v } }
  | configure (h : s.ctl.drv ≠ .rastering) : Effect s .configure (cmdConfigure s)
  | start (h : s.ctl.drv = .configured ∨ s.ctl.drv = .stopped) : Effect s .start (startRaster s)
  | stop (h : s.ctl.drv = .rastering) : Effect s .stop (stopRaster s)
  | setOutput (v : Bool) : Effect s (.setOutput v) (cmdSetOutput v s)
  | suppress (h : s.ctl.drv = .rastering) :
      Effect s .injectLtSuppress { s with tmr := { s.tmr with ltSupp := true } }
  | mode (r : HostReg) (d : Word) (h : s.ctl.drv ≠ .rastering) : Effect s (Instr.ofWrite d r) (modeWrite r d s)
  | fill (d : Word) (h : s.rm.busy = true) : Effect s (.hwrRmDone d) (finishFill d s)
  | store (n : Size) (o : BitVec 12) (d : Word) (b : Fin 8) (hb : s.hasBuf b = true) (hc : windowCheck b o n s = none) :
      Effect s (Instr.ofWindowWrite n o d b) (bufWrite b o.toNat n.bytes d s)
  | command (d : Word) (u : State) (h : Effect s (decodeCmd d) u) : Effect s (.hwrCmd d) u
  | covered (n : Size) (a : Addr) (d : Word) (u : State) (hc : coveredTarget n a = true)
      (h : Effect s (decodeHwr n.code a d) u) : Effect s (.hwr n a d) u

/-- `t` is an effect of `i`, taken in `s`, followed by the Dispatch that ends it. -/
def EndsInDispatch (i : Instr) (s t : State) : Prop := ∃ u, Effect s i u ∧ t = dispatchFill u

/-- `i`, taken in `s`, answers a next state, by an effect and the Dispatch that ends it. -/
def Completes (i : Instr) (s : State) : Prop := ∃ t, exec i s = .next t ∧ EndsInDispatch i s t

/-! ### Operations that only report -/

/-- An operation that leaves the state as it was ends in Dispatch. -/
theorem EndsInDispatch.idle (i : Instr) (s : State) : EndsInDispatch i s (dispatchFill s) :=
  ⟨_, .report i s.err s.events, rfl⟩

theorem EndsInDispatch.raise (i : Instr) (e : ErrBit) (s : State) : EndsInDispatch i s (dispatchFill (raise e s)) := by
  refine ⟨_, .report i (Machine.raise e s).err s.events, ?_⟩
  cases e <;> rfl

theorem EndsInDispatch.read (i : Instr) (v : Word) (s : State) : EndsInDispatch i s (finishRead v s) :=
  ⟨_, .report i s.err _, rfl⟩

theorem EndsInDispatch.refusedRead (i : Instr) (v : Word) (e : ErrBit) (s : State) :
    EndsInDispatch i s (finishRead v (Machine.raise e s)) := by
  refine ⟨_, .report i (Machine.raise e s).err (s.events ++ [.hostData v]), ?_⟩
  cases e <;> rfl

/-- A host-bus read of any size code at any address reports its value, and perhaps an error (R271). -/
theorem EndsInDispatch.hostRead (i : Instr) (sz : BitVec 2) (a : Addr) (s : State) :
    EndsInDispatch i s (hostRead sz a s) := by
  unfold Machine.hostRead
  split
  · exact .refusedRead i _ _ s
  · split
    · split
      · exact .refusedRead i _ _ s
      · split
        · exact .read i _ s
        · exact .refusedRead i _ _ s
    · split
      · split
        · exact .refusedRead i _ _ s
        · exact .read i _ s
      · exact .refusedRead i _ _ s

theorem completes_ofRead (r : HostReg) (s : State) : Completes (Instr.ofRead r) s := by
  rw [Completes, exec_ofRead, readReg]
  split
  · exact ⟨_, rfl, .read _ _ s⟩
  · exact ⟨_, rfl, .refusedRead _ _ _ s⟩

theorem completes_ofWindowRead (n : Size) (o : BitVec 12) (b : Fin 8) (s : State) :
    Completes (Instr.ofWindowRead n o b) s := by
  rw [Completes, exec_ofWindowRead, readWindow]
  split
  · exact ⟨_, rfl, .refusedRead _ _ _ s⟩
  · exact ⟨_, rfl, .read _ _ s⟩

/-! ### Commands (43_front_end.md R279 to R290) -/

/-- What Dispatch leaves, Dispatch leaves alone (R232). -/
theorem dispatchFill_idem (s : State) : dispatchFill (dispatchFill s) = dispatchFill s := by
  obtain h | ⟨b, -, -, -, -, h⟩ := dispatchFill_cases s
  · rw [h, h]
  · rw [h]
    exact dispatchFill_of_no_request _ rfl

theorem completes_configure (s : State) : Completes .configure s := by
  refine ⟨_, rfl, ?_⟩
  by_cases h : s.ctl.drv = .rastering
  · rw [cmdConfigure, if_pos h]
    exact .raise _ _ s
  · exact ⟨_, .configure h, rfl⟩

theorem completes_start (s : State) : Completes .start s := by
  refine ⟨_, rfl, ?_⟩
  unfold cmdStart
  split
  · rename_i h
    exact ⟨_, .start h, dispatchFill_idem _⟩
  · exact .raise _ _ s

theorem completes_stop (s : State) : Completes .stop s := by
  refine ⟨_, rfl, ?_⟩
  unfold cmdStop
  split
  · rename_i h
    exact ⟨_, .stop h, dispatchFill_idem _⟩
  · exact .raise _ _ s

theorem completes_injectLtSuppress (s : State) : Completes .injectLtSuppress s := by
  refine ⟨_, rfl, ?_⟩
  unfold cmdInjectLtSuppress
  split
  · rename_i h
    exact ⟨_, .suppress h, rfl⟩
  · exact .raise _ _ s

theorem completes_decodeCmd (d : Word) (s : State) : Completes (decodeCmd d) s := by
  unfold decodeCmd
  split_ifs
  · exact ⟨_, rfl, .idle _ s⟩
  · exact completes_configure s
  · exact completes_start s
  · exact completes_stop s
  · exact ⟨_, rfl, _, .setOutput _, rfl⟩
  · exact completes_injectLtSuppress s
  · exact ⟨_, rfl, .raise _ _ s⟩

theorem completes_hwrCmd (d : Word) (s : State) : Completes (.hwrCmd d) s := by
  obtain ⟨t, he, u, hu, ht⟩ := completes_decodeCmd d s
  exact ⟨t, (exec_hwrCmd d s).trans he, u, .command d u hu, ht⟩

/-! ### Host-bus writes (43_front_end.md R272) -/

/-- The effect of a write to a mapped register other than CMD, and its Dispatch. -/
theorem EndsInDispatch.regWrite (r : HostReg) (d : Word) (s : State) (hr : r ≠ .cmd) :
    EndsInDispatch (Instr.ofWrite d r) s (dispatchFill (regWrite r d s)) := by
  have hmode (r : HostReg) : EndsInDispatch (Instr.ofWrite d r) s (dispatchFill (modeWrite r d s)) := by
    by_cases h : s.ctl.drv = .rastering
    · rw [modeWrite, if_pos h]
      exact .raise _ _ s
    · exact ⟨_, .mode r d h, rfl⟩
  cases r with
  | cmd => exact absurd rfl hr
  | err => exact ⟨_, .report _ (errWrite d s).err s.events, rfl⟩
  | rmDone =>
    show EndsInDispatch _ _ (dispatchFill (dispatchFill _))
    rw [dispatchFill_idem]
    split
    · rename_i h
      exact ⟨_, .fill d h, rfl⟩
    · exact .raise _ _ s
  | htim0 | htim1 | vtim0 | vtim1 | syncSa | saTol => exact hmode _
  | _ => exact .raise _ _ s

theorem completes_ofWrite (d : Word) (r : HostReg) (s : State) : Completes (Instr.ofWrite d r) s := by
  by_cases hr : r = .cmd
  · subst hr
    exact completes_hwrCmd d s
  · rw [Completes, exec_ofWrite, writeReg]
    split
    · exact ⟨_, rfl, .regWrite r d s hr⟩
    · exact ⟨_, rfl, .raise _ _ s⟩

theorem completes_ofWindowWrite (n : Size) (o : BitVec 12) (d : Word) (b : Fin 8) (s : State) :
    Completes (Instr.ofWindowWrite n o d b) s := by
  refine ⟨_, exec_ofWindowWrite n o d b s, ?_⟩
  obtain ⟨e, h⟩ | ⟨hb, hc, h⟩ := windowWrite_cases b o n d s
  · rw [h]
    exact .raise _ e s
  · rw [h]
    exact ⟨_, .store n o d b hb hc, rfl⟩

/-- What a covered target decodes to is a window write or a register write (R115). -/
theorem decodeHwr_covered (n : Size) (a : Addr) (d : Word) (h : coveredTarget n a = true) :
    decodeHwr n.code a d = Instr.ofWindowWrite n (windowOff a) d (windowBuf a) ∨
      ∃ r, decodeHwr n.code a d = Instr.ofWrite d r := by
  cases hw : inWindow a with
  | true => exact .inl (by simp [decodeHwr, hw])
  | false =>
    simp only [coveredTarget, hw, Bool.false_or, Bool.and_eq_true, decide_eq_true_eq, Option.isSome_iff_exists] at h
    obtain ⟨hn, r, hr⟩ := h
    exact .inr ⟨r, by simp [decodeHwr, hw, hn, hr]⟩

theorem completes_hwr (n : Size) (a : Addr) (d : Word) (s : State) : Completes (.hwr n a d) s := by
  cases hc : coveredTarget n a with
  | false => exact ⟨_, exec_hwr_uncovered n a d s hc, .raise _ _ s⟩
  | true =>
    have hrow : Completes (decodeHwr n.code a d) s := by
      obtain h | ⟨r, h⟩ := decodeHwr_covered n a d hc
      · rw [h]
        exact completes_ofWindowWrite _ _ _ _ s
      · rw [h]
        exact completes_ofWrite d r s
    obtain ⟨t, he, u, hu, ht⟩ := hrow
    exact ⟨t, (exec_hwr_covered n a d s hc).trans he, u, .covered n a d u hc hu, ht⟩

/-! ### Every operation -/

/-- The answers an operation may give. -/
inductive Answer (i : Instr) (s : State) : Result → Prop
  /-- An effect, and the Dispatch that ends the operation (R232). -/
  | next {t : State} (h : EndsInDispatch i s t) : Answer i s (.next t)
  /-- RST (R361). -/
  | reset (h : i = .rst) : Answer i s (.next (State.resetWith s.params (s.draws + 1) s.events s.inputs))
  /-- A reserved code, or a service that is not granted (R113, R212). -/
  | refused (r : Refusal) : Answer i s (.refused r)
  /-- A DMA read of a byte that does not exist (log entry 13). -/
  | fault (o : Addr) (f : Fault) (h : i = .drd o) (hits : dmaHits o s = true) (missing : dmaByteExists o s = false) :
      Answer i s (.fault f)

theorem Completes.answer {i : Instr} {s : State} (h : Completes i s) : Answer i s (exec i s) := by
  obtain ⟨t, he, ht⟩ := h
  rw [he]
  exact .next ht

/-- A DMA read returns a byte, or faults where its byte does not exist (R246). -/
theorem drd_answer (o : Addr) (s : State) : Answer (.drd o) s (exec (.drd o) s) := by
  show Answer _ s (execDrd o s)
  unfold execDrd
  split
  · rename_i hits
    split
    · exact .next ⟨_, .report _ s.err _, rfl⟩
    · rename_i missing
      exact .fault o _ rfl hits (Bool.eq_false_iff.mpr missing)
  · exact .next ⟨_, .report _ s.err _, rfl⟩

/-- What an operation can do. Every proof about all operations goes through this lemma. -/
theorem exec_answer (i : Instr) (s : State) : Answer i s (exec i s) := by
  induction i using Instr.byTarget with
  | tick =>
    show Answer _ s (.next (tick s))
    unfold tick
    split
    · rename_i h
      exact .next ⟨_, .tick h, rfl⟩
    · exact .next (.idle _ s)
  | hwr n a d => exact (completes_hwr n a d s).answer
  | hrd n a => exact .next (.hostRead _ n.code a s)
  | drd o => exact drd_answer o s
  | ltsvc =>
    show Answer _ s (execLtsvc s)
    unfold execLtsvc
    split
    · rename_i h
      exact .next ⟨_, .ltsvc h, lineService_eq s⟩
    · exact .refused _
  | sasvc =>
    show Answer _ s (execSasvc s)
    unfold execSasvc
    split
    · rename_i h
      exact .next ⟨_, .sasvc h, shockService_eq s⟩
    · exact .refused _
  | rst => exact .reset rfl
  | periph v => exact .next ⟨_, .periph v, rfl⟩
  | reservedOp c => exact .refused _
  | hwrSz3 => exact .next (.raise _ _ s)
  | hrdSz3 => exact .next (.refusedRead _ _ _ s)
  | ofWrite d r => exact (completes_ofWrite d r s).answer
  | ofRead r => exact (completes_ofRead r s).answer
  | ofWindowWrite n o d b => exact (completes_ofWindowWrite n o d b s).answer
  | ofWindowRead n o b => exact (completes_ofWindowRead n o b s).answer
  | nop => exact .next (.idle _ s)
  | configure => exact (completes_configure s).answer
  | start => exact (completes_start s).answer
  | stop => exact (completes_stop s).answer
  | setOutput v => exact .next ⟨_, .setOutput v, rfl⟩
  | injectLtSuppress => exact (completes_injectLtSuppress s).answer
  | reservedCmd c => exact .next (.raise _ _ s)

/-- Every operation but RST that answers a next state answers an effect of its own and the Dispatch that ends it. -/
theorem exec_next (i : Instr) (s t : State) (hi : i ≠ .rst) (h : exec i s = .next t) : EndsInDispatch i s t := by
  have ha := exec_answer i s
  rw [h] at ha
  cases ha with
  | next ht => exact ht
  | reset hr => exact absurd hr hi

theorem exec_rst (s t : State) (h : exec .rst s = .next t) :
    t = State.resetWith s.params (s.draws + 1) s.events s.inputs := (Host.Outcome.next.inj h).symm

end Sys2Proof.Machine
end

section
/-! PROOF. The frames of the operations: what no operation but its writer changes (10_state.md R30, R44, R47 to R49, R61),
each read off the effect of the operation. -/

namespace Sys2Proof.Machine

/-! ### The stages that end LTSVC and SASVC -/

@[simp] theorem servedLine_params (s : State) : (servedLine s).params = s.params := by simp [servedLine]
@[simp] theorem servedLine_mode (s : State) : (servedLine s).mode = s.mode := by simp [servedLine]
@[simp] theorem servedLine_mem (s : State) : (servedLine s).mem = s.mem := by simp [servedLine]
@[simp] theorem servedLine_draws (s : State) : (servedLine s).draws = s.draws := by simp [servedLine]
theorem servedLine_ctl (s : State) :
    (servedLine s).ctl = { s.ctl with hsm := (servedLine s).ctl.hsm } := by
  simp [servedLine, settleService]

@[simp] theorem servedShock_params (s : State) : (servedShock s).params = s.params := by unfold servedShock; split <;> rfl
@[simp] theorem servedShock_mode (s : State) : (servedShock s).mode = s.mode := by unfold servedShock; split <;> rfl
@[simp] theorem servedShock_mem (s : State) : (servedShock s).mem = s.mem := by unfold servedShock; split <;> rfl
@[simp] theorem servedShock_draws (s : State) : (servedShock s).draws = s.draws := by unfold servedShock; split <;> rfl

/-! ### Effects, field by field -/

/-- No effect changes the parameters (R30). -/
theorem Effect.params_eq {s u : State} {i : Instr} (h : Effect s i u) : u.params = s.params := by
  induction h with
  | store n o d b => rw [bufWrite_eq]
  | command d u h ih => exact ih
  | covered n a d u hc h ih => exact ih
  | _ => simp [cmdSetOutput]

/-- Only writes to the mode registers change the mode, and those are refused while rastering (R276). -/
theorem Effect.mode_eq {s u : State} {i : Instr} (h : Effect s i u) (hs : s.ctl.drv = .rastering) : u.mode = s.mode := by
  induction h with
  | mode r d h => exact absurd hs h
  | store n o d b => rw [bufWrite_eq]
  | command d u h ih => exact ih
  | covered n a d u hc h ih => exact ih
  | _ => simp [cmdSetOutput]

/-- An effect leaves the storage as it was, or is that of a window write into a FILLING buffer (R61, R240). -/
theorem Effect.mem_cases {s u : State} {i : Instr} (h : Effect s i u) :
    u.mem = s.mem ∨ ∃ (n : Size) (o : BitVec 12) (d : Word) (b : Fin 8),
      s.hasBuf b = true ∧ windowCheck b o n s = none ∧ u = bufWrite b o.toNat n.bytes d s := by
  induction h with
  | store n o d b hb hc => exact .inr ⟨n, o, d, b, hb, hc, rfl⟩
  | command d u h ih => exact ih
  | covered n a d u hc h ih => exact ih
  | _ => exact .inl (by simp [cmdSetOutput])

/-! ### The obligations -/

/-- Settles O12: after RST nothing is listed, and the only effect on the storage is a buffer write. -/
theorem memoryStaysCanonical : Obligations.MemoryStaysCanonical := by
  intro i s t hs h
  by_cases hi : i = .rst
  · subst hi
    rw [exec_rst s t h]
    exact resetWith_wf _ _ _ _
  · obtain ⟨u, hu, rfl⟩ := exec_next i s t hi h
    rw [dispatchFill_mem]
    obtain hm | ⟨n, o, d, b, -, -, rfl⟩ := hu.mem_cases
    · rwa [hm]
    · exact bufWrite_wf b _ _ d s hs

/-- Settles O16: RST passes the parameters on, and no effect and no Dispatch changes them. -/
theorem parametersNeverChange : Obligations.ParametersNeverChange := by
  intro s t h
  cases hin : s.inputs with
  | nil => rw [step_nil s hin] at h; cases h
  | cons w rest =>
    rw [step_cons s w rest hin] at h
    by_cases hi : decode w = .rst
    · rw [hi] at h
      rw [exec_rst _ t h]
      rfl
    · obtain ⟨u, hu, rfl⟩ := exec_next _ _ t hi h
      rw [dispatchFill_params, hu.params_eq, beginStep_params]

/-- Settles O17, by the effect of each operation: the mode writes are refused while rastering. -/
theorem modeFixedWhileRastering : Obligations.ModeFixedWhileRastering := by
  intro i s t hs hi h
  obtain ⟨u, hu, rfl⟩ := exec_next i s t hi h
  rw [dispatchFill_mode, hu.mode_eq hs]

/-- In a state that meets the invariant the byte of a DMA read inside the streaming window exists: the streaming buffer is
XFER, so it is no slot beyond NBUF, and its valid range ends within BUF_BYTES (R65 items 3 and 6). -/
theorem dmaByteExists_of_inv (s : State) (hs : Inv s) (o : Addr) (h : dmaHits o s = true) : dmaByteExists o s = true := by
  simp only [dmaHits, Bool.and_eq_true, decide_eq_true_eq] at h
  obtain ⟨hst, ho⟩ := h
  have hne : s.xfer.xst ≠ .idle := by simp [hst]
  have hown : (s.buf s.xfer.xbuf).own = .xfer := (hs.transfer.1 _).mpr ⟨hne, rfl⟩
  have hlen := hs.transfer.2 hne
  have hr := hs.ranges s.xfer.xbuf
  have hb : s.hasBuf s.xfer.xbuf = true := by
    by_contra hb
    simp [hs.params.2 _ (Bool.eq_false_iff.mpr hb), Buf.reset] at hown
  rw [hlen] at ho
  simp only [dmaByteExists, hb, Bool.true_and, decide_eq_true_eq]
  omega

/-- Settles O15: only a DMA read can fault, and only where its byte is missing. -/
theorem invariantStatesNeverFault : Obligations.InvariantStatesNeverFault := by
  intro i s hs f h
  have ha := exec_answer i s
  rw [h] at ha
  cases ha with
  | fault o f hi hits missing => simp [dmaByteExists_of_inv s hs o hits] at missing

/-! ### Bytes of buffers -/

/-- A byte that a buffer write changes is one of those it stores. -/
theorem bufWrite_changed (b c : Fin 8) (o n p : Nat) (d : Word) (s : State) (hp : p < 0x1000) (ho : o + n ≤ 0x1000)
    (h : readByte (bufWrite b o n d s) c p ≠ readByte s c p) : c = b ∧ o ≤ p ∧ p < o + n := by
  by_contra hn
  apply h
  apply readByte_bufWrite_other
  intro i hi ha
  obtain ⟨hbc, hpo⟩ := bufAddr_inj c b p (o + i) hp (by omega) ha
  exact hn ⟨hbc, by omega, by omega⟩

/-- An aligned access that starts in a window ends in it (20_memory.md R82, R88). -/
theorem aligned_in_window (o : BitVec 12) (n : Size) (h : o.toNat % n.bytes = 0) : o.toNat + n.bytes ≤ 0x1000 := by
  have ho := o.isLt
  cases n <;> simp only [Size.bytes] at h ⊢ <;> omega

/-- Every command word decodes to a well-formed command (R121, R122). -/
theorem decodeCmd_wellFormed (c : Word) : (decodeCmd c).wellFormed = true := by
  unfold decodeCmd
  split_ifs with h0 h1 h2 h3 h4 h5
  case neg =>
    have : 6 ≤ (cmdOp c).toNat := by bv_omega
    simpa [Instr.wellFormed] using this
  all_goals rfl

/-- No command word decodes to a window write. -/
theorem decodeCmd_ne_ofWindowWrite (c : Word) (n : Size) (o : BitVec 12) (d : Word) (b : Fin 8) :
    decodeCmd c ≠ Instr.ofWindowWrite n o d b := by
  unfold decodeCmd
  fin_cases b <;> split_ifs <;> simp [Instr.ofWindowWrite]

/-- The effect of a well-formed operation on the bytes: that of its own window write into a FILLING buffer, or none. -/
theorem Effect.byte_changed {s u : State} {i : Instr} (h : Effect s i u) (hw : i.wellFormed = true) (c : Fin 8) (p : Nat)
    (hp : p < 0x1000) (hne : readByte u c p ≠ readByte s c p) :
    (s.buf c).own = .filling ∧ ∃ (n : Size) (o : BitVec 12) (d : Word), i = Instr.ofWindowWrite n o d c ∧
      o.toNat ≤ p ∧ p < o.toNat + n.bytes := by
  induction h with
  | store n o d b hb hc =>
    obtain ⟨halign, -, hown⟩ := (windowCheck_none_iff b o n s).mp hc
    obtain ⟨rfl, h1, h2⟩ := bufWrite_changed b c _ _ p d s hp (aligned_in_window o n halign) hne
    exact ⟨hown, n, o, d, rfl, h1, h2⟩
  | command d u h ih =>
    obtain ⟨-, n, o, d', hi, -⟩ := ih (decodeCmd_wellFormed d) hne
    exact absurd hi (decodeCmd_ne_ofWindowWrite d n o d' c)
  | covered n a d u hc h => simp [Instr.wellFormed, hc] at hw
  | _ => exact absurd (readByte_congr _ _ _ _ (by simp [cmdSetOutput]) (by simp [cmdSetOutput])) hne

/-- Settles O18: Dispatch changes no byte, so the change is that of the operation's effect. -/
theorem bytesChangeOnlyInFillingBuffer : Obligations.BytesChangeOnlyInFillingBuffer := by
  intro i s t hw hi h b p hp hne
  obtain ⟨u, hu, rfl⟩ := exec_next i s t hi h
  rw [readByte_dispatchFill] at hne
  exact hu.byte_changed hw b p hp hne

/-! ### Control fields with one writer -/

/-- Operation `i` is the command `c`, or the write to CMD of a word that spells it. -/
def CarriesCommand (c i : Instr) : Prop := i = c ∨ ∃ d, i = .hwrCmd d ∧ decodeCmd d = c

theorem decodeCmd_ne_hwrCmd (c d : Word) : decodeCmd c ≠ .hwrCmd d := by
  unfold decodeCmd
  split_ifs <;> simp

theorem decodeCmd_ne_periph (c : Word) (v : Bool) : decodeCmd c ≠ .periph v := by
  unfold decodeCmd
  split_ifs <;> simp

theorem CarriesCommand.hwrCmd {c : Instr} (d : Word) (h : CarriesCommand c (decodeCmd d)) :
    CarriesCommand c (.hwrCmd d) := by
  obtain h | ⟨d', h, -⟩ := h
  · exact .inr ⟨d, rfl, h⟩
  · exact absurd h (decodeCmd_ne_hwrCmd d d')

/-- The command words that spell SET_OUTPUT and CONFIGURE (R121). -/
theorem decodeCmd_eq_setOutput (d : Word) (v : Bool) (h : decodeCmd d = .setOutput v) :
    cmdOp d = 0x04#8 ∧ d.getLsbD 8 = v := by
  unfold decodeCmd at h
  split_ifs at h with h0 h1 h2 h3 h4
  exact ⟨h4, Instr.setOutput.inj h⟩

theorem decodeCmd_eq_configure (d : Word) (h : decodeCmd d = .configure) : cmdOp d = 0x01#8 := by
  unfold decodeCmd at h
  split_ifs at h with h0 h1
  exact h1

/-- CONFIGURE changes at most `drv` and `cfg_err` of the control state (R283). -/
theorem cmdConfigure_ctl (s : State) :
    (cmdConfigure s).ctl = { s.ctl with drv := (cmdConfigure s).ctl.drv, cfgErr := (cmdConfigure s).ctl.cfgErr } := by
  unfold cmdConfigure
  split_ifs <;> simp

/-- A write to a mode register changes at most `drv` of the control state (R276). -/
theorem modeWrite_ctl (r : HostReg) (d : Word) (s : State) :
    (modeWrite r d s).ctl = { s.ctl with drv := (modeWrite r d s).ctl.drv } := by
  unfold modeWrite
  split_ifs <;> simp

theorem servedShock_ctl (s : State) : (servedShock s).ctl = { s.ctl with hsm := (servedShock s).ctl.hsm } := by
  unfold servedShock
  split_ifs <;> rfl

/-- What the effect of a well-formed operation may do to the control state: `out_en`, `periph` and `cfg_err` have one
writer each, and every other operation changes at most `drv` and `hsm`. -/
theorem Effect.ctl_cases {s u : State} {i : Instr} (h : Effect s i u) (hw : i.wellFormed = true) :
    u.ctl = { s.ctl with drv := u.ctl.drv, hsm := u.ctl.hsm } ∨
    (CarriesCommand (.setOutput u.ctl.outEn) i ∧ u.ctl = { s.ctl with outEn := u.ctl.outEn }) ∨
    (i = .periph u.ctl.periph ∧ u.ctl = { s.ctl with periph := u.ctl.periph }) ∨
    (CarriesCommand .configure i ∧ u.ctl = { s.ctl with drv := u.ctl.drv, cfgErr := u.ctl.cfgErr }) := by
  induction h with
  | setOutput v => exact .inr (.inl ⟨.inl rfl, rfl⟩)
  | periph v => exact .inr (.inr (.inl ⟨rfl, rfl⟩))
  | configure => exact .inr (.inr (.inr ⟨.inl rfl, cmdConfigure_ctl s⟩))
  | command d u h ih =>
    obtain h | ⟨hc, h⟩ | ⟨hi, -⟩ | ⟨hc, h⟩ := ih (decodeCmd_wellFormed d)
    · exact .inl h
    · exact .inr (.inl ⟨hc.hwrCmd, h⟩)
    · exact absurd hi (decodeCmd_ne_periph d _)
    · exact .inr (.inr (.inr ⟨hc.hwrCmd, h⟩))
  | covered n a d u hc h => simp [Instr.wellFormed, hc] at hw
  | ltsvc => exact .inl (by rw [servedLine_ctl])
  | sasvc => exact .inl (by rw [servedShock_ctl])
  | mode r d => exact .inl (by rw [modeWrite_ctl])
  | store => exact .inl (by rw [bufWrite_eq])
  | _ => exact .inl (by simp [startRaster, stopRaster])

/-- Settles O24: Dispatch leaves the control state, so a change is that of the operation's effect, which names its writer. -/
theorem controlFieldsHaveOneWriter : Obligations.ControlFieldsHaveOneWriter := by
  intro i s t hw hi h
  obtain ⟨u, hu, rfl⟩ := exec_next i s t hi h
  rw [dispatchFill_ctl]
  obtain hc | ⟨hi, hc⟩ | ⟨hi, hc⟩ | ⟨hi, hc⟩ := hu.ctl_cases hw
  · rw [hc]
    simp
  · refine ⟨fun _ => ?_, by rw [hc]; simp, by rw [hc]; simp⟩
    exact hi.imp id fun ⟨d, hd, hcmd⟩ => ⟨d, hd, decodeCmd_eq_setOutput d _ hcmd⟩
  · exact ⟨by rw [hc]; simp, fun _ => hi, by rw [hc]; simp⟩
  · refine ⟨by rw [hc]; simp, by rw [hc]; simp, fun _ => ?_⟩
    exact hi.imp id fun ⟨d, hd, hcmd⟩ => ⟨d, hd, decodeCmd_eq_configure d hcmd⟩

end Sys2Proof.Machine
end

section
/-! PROOF. The reset state, the level outputs and the register map (10_state.md R63, R65, R67, R360). -/

namespace Sys2Proof.Machine

/-- After reset every buffer is at its reset value (R360). -/
@[simp] theorem resetWith_buf (p : Params) (n : Nat) (evs : List Event) (ins : List OpWord) (b : Fin 8) :
    (State.resetWith p n evs ins).buf b = Buf.reset := by
  simp [State.buf, State.resetWith]

/-- The reset state meets the invariant: no buffer is in use, the block does not raster, and nothing waits. -/
theorem inv_resetWith (p : Params) (n : Nat) (evs : List Event) (ins : List OpWord) (hp : p.wf = true) :
    Inv (State.resetWith p n evs ins) where
  params := ⟨hp, fun b _ => resetWith_buf p n evs ins b⟩
  engine := by simp [EngineRuns, State.resetWith, Control.reset]
  fill := by
    intro b
    rw [resetWith_buf]
    exact Iff.intro (fun h => nomatch h) (fun h => nomatch h.1)
  transfer := by
    refine ⟨fun b => ?_, fun h => absurd rfl h⟩
    rw [resetWith_buf]
    exact Iff.intro (fun h => nomatch h) (fun h => absurd rfl h.1)
  oneReady := by intro b c; simp [Buf.reset]
  discardFilling := by intro b; simp [Buf.reset]
  ranges := by intro b; simp [Buf.reset]
  waiting := by simp [WaitingForCause, State.resetWith, Handshake.reset]
  raster := by simp [RasterInRange, State.resetWith, Control.reset]
  serviceIdle := by simp [ServiceFindsIdle, State.resetWith, Transfer.reset]
  accepted := by simp [ModeAccepted, State.resetWith, Control.reset]
  phase := by simp [TransferInPhase, State.resetWith, Transfer.reset]
  onePreparation := by simp [OneLineInPreparation, Buf.reset]
  quiet := fun _ => ⟨rfl, rfl, rfl, rfl, rfl, rfl, fun b => by simp [Buf.reset]⟩
  resync := by simp [ResyncIsMarked, State.resetWith, Timers.reset, Control.reset]
  region := by simp [RegionFollowsLine, State.resetWith, Control.reset]
  storage := ⟨rfl, by simp [State.resetWith]⟩

/-- Settles O14: the default parameters are in their ranges (R11, R12). -/
theorem resetMeetsInvariant : Obligations.ResetMeetsInvariant :=
  ⟨inv_resetWith, inv_resetWith Params.default 0 [] [] rfl⟩

/-- Settles O25, output by output, along the condition that defines it. -/
theorem levelOutputsFollowState : Obligations.LevelOutputsFollowState := by
  intro s
  refine ⟨fun h1 h2 => if_pos ⟨h1, h2⟩, fun h => if_neg h, fun h1 h2 => if_pos ⟨h1, h2⟩, fun h => if_neg h, ?_, rfl⟩
  exact decide_eq_true_iff

/-! ### Fields of a register word -/

/-- A field holds the bits from `k` up, and no others. -/
theorem field_getLsbD (w : Nat) (v : BitVec w) (k i : Nat) :
    (field w v k).getLsbD i = (decide (i < 32) && (decide (k ≤ i) && v.getLsbD (i - k))) := by
  simp only [field, BitVec.getLsbD_shiftLeft, BitVec.getLsbD_setWidth]
  by_cases hk : i < k
  · simp [hk, Nat.not_le.mpr hk]
  · have hki : k ≤ i := Nat.not_lt.mp hk
    by_cases hi : i < 32 <;> simp [hk, hki, hi]
    omega

theorem field_extract_same (w : Nat) (v : BitVec w) (k : Nat) (h : k + w ≤ 32) : (field w v k).extractLsb' k w = v := by
  apply BitVec.eq_of_getLsbD_eq
  intro i hi
  simp only [BitVec.getLsbD_extractLsb', field_getLsbD, hi, show k + i < 32 by omega, Nat.le_add_right,
    Nat.add_sub_cancel_left, decide_true, Bool.true_and]

theorem field_extract_other (w : Nat) (v : BitVec w) (k a n : Nat) (h : a + n ≤ k ∨ k + w ≤ a) :
    (field w v k).extractLsb' a n = 0#n := by
  apply BitVec.eq_of_getLsbD_eq
  intro i hi
  simp only [BitVec.getLsbD_extractLsb', field_getLsbD, BitVec.getLsbD_zero, Bool.and_eq_false_iff,
    decide_eq_false_iff_not]
  by_cases hk : k ≤ a + i
  · exact .inr (.inr (.inr (BitVec.getLsbD_of_ge _ _ (by omega))))
  · exact .inr (.inr (.inl hk))

theorem field_getLsbD_other (w : Nat) (v : BitVec w) (k i : Nat) (h : i < k ∨ k + w ≤ i) :
    (field w v k).getLsbD i = false := by
  have h0 := congrArg (BitVec.getLsbD · 0) (field_extract_other w v k i 1 (by omega))
  simpa [BitVec.getLsbD_extractLsb'] using h0

theorem bitField_getLsbD_same (v : Bool) (k : Nat) (h : k < 32) : (bitField v k).getLsbD k = v := by
  simp only [bitField, field_getLsbD, h, le_refl, Nat.sub_self, decide_true, Bool.true_and, BitVec.getLsbD_ofBool]

theorem bitField_getLsbD_other (v : Bool) (k i : Nat) (h : i < k ∨ k + 1 ≤ i) : (bitField v k).getLsbD i = false :=
  field_getLsbD_other 1 _ k i h

theorem bitField_extract_other (v : Bool) (k a n : Nat) (h : a + n ≤ k ∨ k + 1 ≤ a) :
    (bitField v k).extractLsb' a n = 0#n := field_extract_other 1 _ k a n h

/-- The fields placed below bit `n`, and the field placed at bit `n`, in one. -/
theorem setWidth_or_field {n w : Nat} (x : BitVec n) (v : BitVec w) :
    x.setWidth 32 ||| field w v n = (v ++ x).setWidth 32 := by
  apply BitVec.eq_of_getLsbD_eq
  intro i hi
  simp only [BitVec.getLsbD_or, BitVec.getLsbD_setWidth, field_getLsbD, BitVec.getLsbD_append, hi, decide_true,
    Bool.true_and]
  by_cases hn : i < n
  · simp [hn, Nat.not_le.mpr hn]
  · simp [hn, Nat.not_lt.mp hn]

theorem field_zero_eq {w : Nat} (v : BitVec w) : field w v 0 = v.setWidth 32 := by simp [field]

/-- Bits that no field fills read 0. -/
theorem setWidth_pad {n : Nat} (m : Nat) (x : BitVec n) : x.setWidth 32 = (0#m ++ x).setWidth 32 := by
  apply BitVec.eq_of_getLsbD_eq
  intro i hi
  simp only [BitVec.getLsbD_setWidth, BitVec.getLsbD_append, BitVec.getLsbD_zero, hi, decide_true, Bool.true_and]
  split
  · rfl
  · exact BitVec.getLsbD_of_ge x i (by omega)

/-- A register of two halves. -/
theorem halves_eq_append (lo hi : Count) : field 16 lo 0 ||| field 16 hi 16 = hi ++ lo := by
  rw [field_zero_eq, setWidth_or_field, BitVec.setWidth_eq]

/-- A register of one half. -/
theorem half_eq_append (lo : Count) : field 16 lo 0 = 0#16 ++ lo := by
  rw [field_zero_eq, setWidth_pad 16, BitVec.setWidth_eq]

/-- A register of a half and the byte above it. -/
theorem half_byte_eq_append (lo : Count) (b : BitVec 8) : field 16 lo 0 ||| field 8 b 16 = 0#8 ++ b ++ lo := by
  rw [field_zero_eq, setWidth_or_field, setWidth_pad 8, BitVec.setWidth_eq]
  exact BitVec.append_assoc.symm

/-! ### The registers (R67, R270) -/

theorem statusWord_fields (s : State) :
    (statusWord s).extractLsb' 0 2 = drvCode s.ctl.drv ∧ (statusWord s).extractLsb' 2 3 = hsmCode s.ctl.hsm ∧
      (statusWord s).getLsbD 5 = s.ln.miss ∧ (statusWord s).getLsbD 6 = s.tmr.resyncReq ∧
      (statusWord s).getLsbD 7 = s.ctl.outEn ∧ (statusWord s).getLsbD 8 = s.tmr.ltPend ∧
      (statusWord s).getLsbD 9 = s.tmr.saPend ∧ (statusWord s).getLsbD 10 = s.tmr.ltSupp ∧
      (statusWord s).getLsbD 11 = s.ctl.periph ∧
      (statusWord s).extractLsb' 12 2 = regionCode s.ln.region ∧
      (statusWord s).extractLsb' 14 2 = xstCode s.xfer.xst ∧
      (statusWord s).getLsbD 16 = s.rm.busy ∧ (statusWord s).getLsbD 17 = s.rm.pend ∧
      (statusWord s).extractLsb' 18 14 = 0 := by
  simp (disch := omega) only [statusWord, BitVec.extractLsb'_or, BitVec.getLsbD_or, field_extract_same,
    field_extract_other, bitField_extract_other, field_getLsbD_other, bitField_getLsbD_same, bitField_getLsbD_other,
    BitVec.or_zero, BitVec.zero_or, Bool.or_false, Bool.false_or, BitVec.ofNat_eq_ofNat, and_self]

theorem errWord_fields (s : State) :
    (errWord s).extractLsb' 0 4 = cfgErrCode s.ctl.cfgErr ∧ (errWord s).extractLsb' 4 4 = 0 ∧
      (errWord s).getLsbD 8 = s.err.badState ∧ (errWord s).getLsbD 9 = s.err.badCmd ∧
      (errWord s).getLsbD 10 = s.err.ownViol ∧ (errWord s).getLsbD 11 = s.err.bounds ∧
      (errWord s).getLsbD 12 = s.err.clamped ∧ (errWord s).getLsbD 13 = s.err.badAccess ∧
      (errWord s).extractLsb' 14 18 = 0 := by
  simp (disch := omega) only [errWord, BitVec.extractLsb'_or, BitVec.getLsbD_or, field_extract_same,
    field_extract_other, bitField_extract_other, field_getLsbD_other, bitField_getLsbD_same, bitField_getLsbD_other,
    BitVec.or_zero, Bool.or_false, Bool.false_or, BitVec.ofNat_eq_ofNat, and_self]

theorem rmReq_fields (s : State) :
    (regValue .rmReq s).extractLsb' 0 16 = s.rm.line ∧ ((regValue .rmReq s).extractLsb' 16 3).toNat = s.rm.buf.val ∧
      (regValue .rmReq s).extractLsb' 19 12 = 0 ∧ (regValue .rmReq s).getLsbD 31 = s.rm.busy := by
  simp (disch := omega) only [regValue, BitVec.extractLsb'_or, BitVec.getLsbD_or, field_extract_same,
    field_extract_other, bitField_extract_other, field_getLsbD_other, bitField_getLsbD_same,
    BitVec.or_zero, BitVec.zero_or, Bool.false_or, BitVec.ofNat_eq_ofNat, BitVec.toNat_ofFin, and_self]

theorem paramWord_fields (p : Params) (hp : p.wf = true) :
    ((paramWord p).extractLsb' 0 4).toNat = p.nbuf ∧ (paramWord p).extractLsb' 4 4 = 1 ∧
      (paramWord p).extractLsb' 8 8 = 0 ∧ ((paramWord p).extractLsb' 16 16).toNat = p.bufBytes := by
  simp only [Params.wf, Bool.and_eq_true, decide_eq_true_eq] at hp
  obtain ⟨⟨⟨-, hn⟩, -⟩, hb⟩ := hp
  simp (disch := omega) only [paramWord, BitVec.extractLsb'_or, field_extract_same, field_extract_other,
    BitVec.or_zero, BitVec.zero_or, BitVec.toNat_ofNat, specVersion, BitVec.ofNat_eq_ofNat, Nat.mod_eq_of_lt,
    and_self]

theorem syncSa_eq (s : State) : regValue .syncSa s =
    s.mode.saPhase ++ s.mode.saDiv ++ 0#6 ++ BitVec.ofBool s.mode.vsPol ++ BitVec.ofBool s.mode.hsPol := by
  simp only [regValue, bitField, field_zero_eq]
  rw [setWidth_or_field (n := 1), setWidth_pad 6, setWidth_or_field (n := 8), setWidth_or_field (n := 16),
    BitVec.setWidth_eq]
  simp only [BitVec.append_assoc, BitVec.cast_eq]

theorem bufstat_eq (b : Fin 8) (s : State) : regValue (.bufstat b) s =
    (s.buf b).vrange ++ 0#13 ++ BitVec.ofBool (s.buf b).discard ++ ownCode (s.buf b).own := by
  simp only [regValue, bitField, field_zero_eq]
  rw [setWidth_or_field (n := 2), setWidth_pad 13, setWidth_or_field (n := 16), BitVec.setWidth_eq]
  simp only [BitVec.append_assoc, BitVec.cast_eq]

/-- Settles O46, register by register: each field is read back at its own bits, and the other fields leave those bits 0. -/
theorem registerFieldsAreWhereTheMapSays : Obligations.RegisterFieldsAreWhereTheMapSays := by
  refine ⟨by decide, by decide, by decide, by decide, by decide, by decide, fun s => ⟨rfl, statusWord_fields s,
    errWord_fields s, rmReq_fields s, paramWord_fields s.params, ?_, ?_, fun b => ⟨bufstat_eq b s, rfl, ?_⟩⟩⟩
  · exact ⟨halves_eq_append _ _, halves_eq_append _ _, halves_eq_append _ _, halves_eq_append _ _, syncSa_eq s,
      half_eq_append _⟩
  · exact ⟨half_eq_append _, rfl, rfl, halves_eq_append _ _, half_byte_eq_append _ _, half_byte_eq_append _ _, rfl, rfl⟩
  · exact half_eq_append _

end Sys2Proof.Machine
end

section
/-! PROOF. The part of the invariant that speaks of the buffers, their fill and their transfer (10_state.md R65 items 2 to
6): the moves of buffer ownership (42_buffer_controller.md R230) keep it. -/

namespace Sys2Proof.Machine

/-! ### The buffer part of the invariant -/

/-- The clauses of `Inv` about the buffers, the fill in service and the transfer. -/
structure BufferInv (s : State) : Prop where
  params : ParamsInRange s
  fill : FillIsInService s
  transfer : TransferHasBuffer s
  oneReady : AtMostOneReady s
  discardFilling : DiscardOnlyFilling s
  ranges : RangesInBounds s
  onePreparation : OneLineInPreparation s

theorem Inv.bufferInv {s : State} (h : Inv s) : BufferInv s :=
  ⟨h.params, h.fill, h.transfer, h.oneReady, h.discardFilling, h.ranges, h.onePreparation⟩

/-- No buffer is READY, and every fill in service is discarded (R168, R287). -/
def NoLiveWork (s : State) : Prop :=
  ∀ b : Fin 8, (s.buf b).own ≠ .ready ∧ ((s.buf b).own = .filling → (s.buf b).discard = true)

/-- A buffer in use exists: a slot beyond NBUF stays FREE. -/
theorem BufferInv.hasBuf {s : State} (h : BufferInv s) (b : Fin 8) (hb : (s.buf b).own ≠ .free) : s.hasBuf b = true := by
  by_contra hn
  exact hb (by rw [h.params.2 b (Bool.eq_false_iff.mpr hn)]; rfl)

/-! ### Withdrawing work -/

/-- `y` is buffer `x` after some of its work was withdrawn: a READY buffer may be freed, a fill may be discarded. -/
structure Withdrawn (x y : Buf) : Prop where
  vrange : y.vrange = x.vrange
  filling : y.own = .filling ↔ x.own = .filling
  xfer : y.own = .xfer ↔ x.own = .xfer
  ready : y.own = .ready → x.own = .ready
  discards : x.discard = true → y.discard = true
  discarded : y.discard = true → x.discard = true ∨ x.own = .filling

theorem Withdrawn.refl (x : Buf) : Withdrawn x x := ⟨rfl, Iff.rfl, Iff.rfl, id, id, .inl⟩

theorem Withdrawn.of_freed {x : Buf} (h : x.own = .ready) : Withdrawn x { x with own := .free } where
  vrange := rfl
  filling := by simp [h]
  xfer := by simp [h]
  ready := by simp
  discards := id
  discarded := .inl

theorem Withdrawn.of_discarded {x : Buf} (h : x.own = .filling) : Withdrawn x { x with discard := true } where
  vrange := rfl
  filling := Iff.rfl
  xfer := Iff.rfl
  ready := id
  discards := fun _ => rfl
  discarded := fun _ => .inr h

theorem withdrawn_withdrawBuf (seq : BitVec 32) (x : Buf) : Withdrawn x (withdrawBuf seq x) := by
  unfold withdrawBuf
  split
  · exact .of_discarded ‹_›
  · split
    · exact .refl x
    · exact .of_freed ‹_›
  · exact .refl x
  · exact .refl x

theorem withdrawn_stopBuf (x : Buf) : Withdrawn x (stopBuf x) := by
  unfold stopBuf
  split
  · exact .of_freed ‹_›
  · exact .of_discarded ‹_›
  · exact .refl x
  · exact .refl x

theorem withdrawn_freeReady (x : Buf) : Withdrawn x (freeReady x) := by
  unfold freeReady
  split
  · exact .of_freed ‹_›
  · exact .refl x

/-- Withdrawing work keeps the buffer part, and so does taking back the waiting request. -/
theorem BufferInv.withdraw {s t : State} (h : BufferInv s) (hp : t.params = s.params)
    (hw : ∀ b, Withdrawn (s.buf b) (t.buf b)) (hout : ∀ b, s.hasBuf b = false → t.buf b = s.buf b)
    (hbusy : t.rm.busy = s.rm.busy) (hbuf : t.rm.buf = s.rm.buf) (hpend : t.rm.pend = true → s.rm.pend = true)
    (hx : t.xfer = s.xfer) : BufferInv t where
  params := ⟨by rw [hp]; exact h.params.1, fun b hb => by
    rw [hasBuf_congr t s hp] at hb
    rw [hout b hb, h.params.2 b hb]⟩
  fill b := by rw [(hw b).filling, h.fill b, hbusy, hbuf]
  transfer := ⟨fun b => by rw [(hw b).xfer, h.transfer.1 b, hx], by rw [hx, (hw _).vrange]; exact h.transfer.2⟩
  oneReady b c hb hc := h.oneReady b c ((hw b).ready hb) ((hw c).ready hc)
  discardFilling b hb := (hw b).filling.mpr (((hw b).discarded hb).elim (h.discardFilling b) id)
  ranges b := by rw [(hw b).vrange, hp]; exact h.ranges b
  onePreparation :=
    ⟨fun hr b => ⟨fun hb => (h.onePreparation.1 (hpend hr) b).1 ((hw b).ready hb),
      fun hb => (hw b).discards ((h.onePreparation.1 (hpend hr) b).2 ((hw b).filling.mp hb))⟩,
    fun b c hb hc => (hw c).discards (h.onePreparation.2 b c ((hw b).ready hb) ((hw c).filling.mp hc))⟩

/-- The buffer part speaks of the parameters, the buffers, the handshake and the transfer alone. -/
theorem BufferInv.congr {s t : State} (h : BufferInv s) (hp : t.params = s.params) (hb : t.bufs = s.bufs)
    (hr : t.rm = s.rm) (hx : t.xfer = s.xfer) : BufferInv t :=
  h.withdraw hp (fun b => buf_congr t s hb b ▸ .refl _) (fun b _ => buf_congr t s hb b) (by rw [hr]) (by rw [hr])
    (by rw [hr]; exact id) hx

theorem BufferInv.mapBufs {s : State} (h : BufferInv s) (f : Buf → Buf) (hf : ∀ x, Withdrawn x (f x)) :
    BufferInv (mapBufs f s) := by
  refine h.withdraw rfl (fun b => ?_) (fun b hb => ?_) rfl rfl id rfl
  · rw [mapBufs_buf]
    split
    · exact hf _
    · exact .refl _
  · simp [mapBufs_buf, hb]

/-- A request may be made when no buffer is READY and every fill is discarded (R172, R285). -/
theorem BufferInv.request {s : State} (h : BufferInv s) (hn : NoLiveWork s) (seq : BitVec 32) (line : Count) :
    BufferInv { s with rm := { s.rm with pend := true, pendSeq := seq, pendLine := line } } :=
  ⟨h.params, h.fill, h.transfer, h.oneReady, h.discardFilling, h.ranges, fun _ => hn, h.onePreparation.2⟩

/-- Taking back the waiting request keeps the buffer part (R168, R238). -/
theorem BufferInv.dropRequest {s : State} (h : BufferInv s) :
    BufferInv { s with rm := { s.rm with pend := false } } :=
  h.withdraw rfl (fun _ => .refl _) (fun _ _ => rfl) rfl rfl (fun hp => nomatch hp) rfl

/-! ### The transfer -/

/-- The armed transfer starts streaming (R157). -/
theorem BufferInv.stream {s : State} (h : BufferInv s) (hx : s.xfer.xst = .armed) :
    BufferInv { s with xfer := { s.xfer with xst := .streaming } } where
  params := h.params
  fill := h.fill
  transfer := by
    have hne : s.xfer.xst ≠ .idle := by simp [hx]
    have hst : Xst.streaming ≠ .idle := nofun
    exact ⟨fun b => (h.transfer.1 b).trans ⟨fun hb => ⟨hst, hb.2⟩, fun hb => ⟨hne, hb.2⟩⟩, fun _ => h.transfer.2 hne⟩
  oneReady := h.oneReady
  discardFilling := h.discardFilling
  ranges := h.ranges
  onePreparation := h.onePreparation

/-! ### One buffer changes hands -/

/-- One existing buffer `b` becomes `x`, in a state `t` otherwise like `s` but for the handshake and the transfer: what is
then to be shown of `x`, of the fill in service and of the transfer. -/
theorem BufferInv.change {s t : State} (h : BufferInv s) (b : Fin 8) (x : Buf) (hp : t.params = s.params)
    (hb : s.hasBuf b = true) (hbuf : ∀ c, t.buf c = if c = b then x else s.buf c)
    (hfill : FillIsInService t) (htransfer : TransferHasBuffer t)
    (hready : x.own = .ready → ∀ c, (s.buf c).own ≠ .ready) (hdiscard : x.discard = true → x.own = .filling)
    (hrange : x.vrange.toNat ≤ s.params.bufBytes) (hprep : OneLineInPreparation t) : BufferInv t where
  params := by
    refine ⟨by rw [hp]; exact h.params.1, fun c hc => ?_⟩
    rw [hasBuf_congr t s hp] at hc
    rw [hbuf, if_neg (fun hcb => by simp [hcb, hb] at hc), h.params.2 c hc]
  fill := hfill
  transfer := htransfer
  oneReady c d hc hd := by
    rw [hbuf] at hc hd
    split_ifs at hc hd with hcb hdb hdb
    · rw [hcb, hdb]
    · exact absurd hd (hready hc d)
    · exact absurd hc (hready hd c)
    · exact h.oneReady c d hc hd
  discardFilling c hc := by
    rw [hbuf] at hc ⊢
    split_ifs at hc ⊢
    · exact hdiscard hc
    · exact h.discardFilling c hc
  ranges c := by
    rw [hp, hbuf]
    split_ifs
    · exact hrange
    · exact h.ranges c
  onePreparation := hprep

/-- A buffer that leaves the FILLING and READY ones, or was none of them, takes part in no preparation. -/
theorem OneLineInPreparation.change {s t : State} (h : OneLineInPreparation s) (b : Fin 8) (x : Buf)
    (hbuf : ∀ c, t.buf c = if c = b then x else s.buf c) (hpend : t.rm.pend = true → s.rm.pend = true)
    (hr : x.own ≠ .ready) (hf : x.own ≠ .filling) : OneLineInPreparation t := by
  constructor
  · intro hp c
    rw [hbuf]
    split_ifs
    · exact ⟨hr, fun hx => absurd hx hf⟩
    · exact h.1 (hpend hp) c
  · intro c d hc hd
    have hcb : c ≠ b := fun hcb => hr (by simpa [hbuf, hcb] using hc)
    have hdb : d ≠ b := fun hdb => hf (by simpa [hbuf, hdb] using hd)
    rw [hbuf, if_neg hcb] at hc
    rw [hbuf, if_neg hdb] at hd ⊢
    exact h.2 c d hc hd

/-- The transfer ends, and its buffer is freed (R158, R287). -/
theorem BufferInv.endTransfer {s t : State} (h : BufferInv s) (hx : s.xfer.xst ≠ .idle) (hp : t.params = s.params)
    (hbuf : ∀ c, t.buf c = if c = s.xfer.xbuf then { s.buf s.xfer.xbuf with own := .free } else s.buf c)
    (hr : t.rm = s.rm) (hidle : t.xfer.xst = .idle) : BufferInv t := by
  have hown : (s.buf s.xfer.xbuf).own = .xfer := (h.transfer.1 _).mpr ⟨hx, rfl⟩
  have hfill : FillIsInService t := by
    intro c
    rw [hbuf, hr, ← h.fill c]
    split_ifs with hc <;> simp [hc, hown]
  have hxfer (c : Fin 8) : (t.buf c).own = .xfer ↔ (t.xfer.xst ≠ .idle ∧ t.xfer.xbuf = c) := by
    rw [hbuf, hidle]
    split_ifs with hc
    · simp
    · simp [h.transfer.1 c, Ne.symm hc]
  have hdiscard : (s.buf s.xfer.xbuf).discard ≠ true := fun hd => by simpa [hown] using h.discardFilling _ hd
  have hprep : OneLineInPreparation t := h.onePreparation.change _ _ hbuf (by rw [hr]; exact id) nofun nofun
  exact h.change s.xfer.xbuf _ hp (h.hasBuf _ (by simp [hown])) hbuf hfill ⟨hxfer, fun hne => absurd hidle hne⟩ nofun
    (fun hd => absurd hd hdiscard) (h.ranges _) hprep

/-- A READY buffer is handed to a transfer that is armed (R169). -/
theorem BufferInv.arm {s t : State} (h : BufferInv s) (hx : s.xfer.xst = .idle) (r : Fin 8)
    (hready : (s.buf r).own = .ready) (hp : t.params = s.params)
    (hbuf : ∀ c, t.buf c = if c = r then { s.buf r with own := .xfer } else s.buf c)
    (hr : t.rm = s.rm) (ht : t.xfer = ⟨.armed, r, (s.buf r).vrange⟩) : BufferInv t := by
  have hfill : FillIsInService t := by
    intro c
    rw [hbuf, hr, ← h.fill c]
    split_ifs with hc <;> simp [hc, hready]
  have hxfer (c : Fin 8) : (t.buf c).own = .xfer ↔ (t.xfer.xst ≠ .idle ∧ t.xfer.xbuf = c) := by
    rw [hbuf, ht]
    split_ifs with hc
    · simp [hc]
    · simp [h.transfer.1 c, hx, Ne.symm hc]
  have hlen : t.xfer.xlen = (t.buf t.xfer.xbuf).vrange := by
    rw [hbuf, ht]
    simp
  have hdiscard : (s.buf r).discard ≠ true := fun hd => by simpa [hready] using h.discardFilling _ hd
  have hprep : OneLineInPreparation t := h.onePreparation.change _ _ hbuf (by rw [hr]; exact id) nofun nofun
  exact h.change r _ hp (h.hasBuf _ (by simp [hready])) hbuf hfill ⟨hxfer, fun _ => hlen⟩ nofun
    (fun hd => absurd hd hdiscard) (h.ranges r) hprep

/-- Dispatch hands the waiting request to a FREE buffer (R232). -/
theorem BufferInv.dispatchTo {s : State} (h : BufferInv s) (b : Fin 8) (hb : s.hasBuf b = true)
    (hfree : (s.buf b).own = .free) (hpend : s.rm.pend = true) (hbusy : s.rm.busy = false) :
    BufferInv (dispatchTo b s) := by
  have hidle (c : Fin 8) : (s.buf c).own ≠ .filling := fun hc => by simpa [hbusy] using (h.fill c).mp hc
  have hfill : FillIsInService (Machine.dispatchTo b s) := by
    intro c
    rw [dispatchTo_buf, dispatchTo_rm]
    split_ifs with hc
    · simp [hc]
    · simp [hidle c, Ne.symm hc]
  have htransfer : TransferHasBuffer (Machine.dispatchTo b s) := by
    refine ⟨fun c => ?_, fun hne => ?_⟩
    · rw [dispatchTo_buf, dispatchTo_xfer, ← h.transfer.1 c]
      split_ifs with hc <;> simp [hc, hfree]
    · rw [dispatchTo_buf, dispatchTo_xfer, h.transfer.2 hne]
      split_ifs with hc <;> simp [hc]
  have hprep : OneLineInPreparation (Machine.dispatchTo b s) := by
    refine ⟨nofun, fun c d hc hd => ?_⟩
    rw [dispatchTo_buf] at hc
    split_ifs at hc
    exact absurd hc (h.onePreparation.1 hpend c).1
  exact h.change b _ rfl hb (fun c => dispatchTo_buf b c s) hfill htransfer nofun (fun _ => rfl) (h.ranges b) hprep

/-- The buffer a fill of declared range `vr` ends with (R236 to R238). -/
def filledBuf (vr : Word) (s : State) : Buf :=
  if (s.buf s.rm.buf).discard then { s.buf s.rm.buf with own := .free, discard := false }
  else { s.buf s.rm.buf with own := .ready, vrange := BitVec.ofNat 16 (min vr.toNat s.params.bufBytes) }

@[simp] theorem finishFill_rm (vr : Word) (s : State) : (finishFill vr s).rm = { s.rm with busy := false } := by
  unfold finishFill
  dsimp only
  split <;> split <;> simp

theorem finishFill_buf (vr : Word) (s : State) (c : Fin 8) :
    (finishFill vr s).buf c = if c = s.rm.buf then filledBuf vr s else s.buf c := by
  rw [← raise_buf .clamped s c]
  unfold finishFill filledBuf
  dsimp only
  split <;> split <;> exact setBuf_buf _ _ _ _

theorem filledBuf_own (vr : Word) (s : State) :
    (filledBuf vr s).own = if (s.buf s.rm.buf).discard then .free else .ready := by
  unfold filledBuf
  split <;> rfl

theorem filledBuf_discard (vr : Word) (s : State) : (filledBuf vr s).discard = false := by
  unfold filledBuf
  split
  · rfl
  · exact Bool.eq_false_iff.mpr ‹_›

theorem filledBuf_vrange_le (vr : Word) (s : State) (h : RangesInBounds s) :
    (filledBuf vr s).vrange.toNat ≤ s.params.bufBytes := by
  unfold filledBuf
  split
  · exact h _
  · rw [BitVec.toNat_ofNat]
    exact (Nat.mod_le _ _).trans (min_le_right _ _)

/-- The end of a discarded fill leaves no live work where there was none (R238). -/
theorem NoLiveWork.finishFill {s : State} (h : NoLiveWork s) (vr : Word) (hown : (s.buf s.rm.buf).own = .filling) :
    NoLiveWork (finishFill vr s) := by
  intro c
  rw [finishFill_buf]
  split_ifs
  · simp [filledBuf_own, (h _).2 hown]
  · exact h c

/-- The fill in service ends (R236). -/
theorem BufferInv.finishFill {s : State} (h : BufferInv s) (vr : Word) (hbusy : s.rm.busy = true) :
    BufferInv (finishFill vr s) := by
  have hown : (s.buf s.rm.buf).own = .filling := (h.fill _).mpr ⟨hbusy, rfl⟩
  have hnone (c : Fin 8) : ((Machine.finishFill vr s).buf c).own ≠ .filling := by
    rw [finishFill_buf]
    split_ifs with hc
    · rw [filledBuf_own]
      split_ifs <;> nofun
    · exact fun hf => hc ((h.fill c).mp hf).2.symm
  have hfill : FillIsInService (Machine.finishFill vr s) := fun c => by simp [hnone c]
  have htransfer : TransferHasBuffer (Machine.finishFill vr s) := by
    refine ⟨fun c => ?_, fun hne => ?_⟩
    · rw [finishFill_buf, finishFill_xfer, ← h.transfer.1 c]
      split_ifs with hc
      · rw [filledBuf_own, hc, hown]
        split_ifs <;> simp
      · rfl
    · rw [finishFill_xfer] at hne ⊢
      have hx : s.xfer.xbuf ≠ s.rm.buf := fun hx => by
        have := (h.transfer.1 _).mpr ⟨hne, rfl⟩
        simp [hx, hown] at this
      rw [finishFill_buf, if_neg hx, h.transfer.2 hne]
  have hready (hr : (filledBuf vr s).own = .ready) (c : Fin 8) : (s.buf c).own ≠ .ready := by
    intro hc
    rw [filledBuf_own, h.onePreparation.2 c _ hc hown] at hr
    cases hr
  have hlive (hp : s.rm.pend = true) : NoLiveWork (Machine.finishFill vr s) :=
    NoLiveWork.finishFill (h.onePreparation.1 hp) vr hown
  exact h.change s.rm.buf _ (finishFill_params vr s) (h.hasBuf _ (by simp [hown])) (finishFill_buf vr s) hfill htransfer
    hready (fun hd => by simp [filledBuf_discard] at hd) (filledBuf_vrange_le vr s h.ranges)
    ⟨fun hp => hlive (by rwa [finishFill_rm] at hp), fun _ d _ hf => absurd hf (hnone d)⟩

end Sys2Proof.Machine
end

section
/-! PROOF. The part of the invariant that speaks of the driver, the engine, the timers and the line (10_state.md R65 items
1, 8 and 9, 40_horizontal_fsm.md R150 to R177), and the stages of TICK, LTSVC, SASVC and START that move them. -/

namespace Sys2Proof.Machine

/-- What an accepted mode guarantees (R282). -/
structure ModeRanges (m : Mode) : Prop where
  hsync : 1 ≤ m.hsEnd.toNat
  backPorch : m.hsEnd.toNat < m.bpEnd.toNat
  active : m.bpEnd.toNat < m.actEnd.toNat
  frontPorch : m.actEnd.toNat < m.tLine.toNat
  visible : 1 ≤ m.lVis.toNat
  blank : m.lVis.toNat < m.lTotal.toNat
  vsync : m.vsStart.toNat < m.vsEnd.toNat
  divider : 1 ≤ m.saDiv.toNat

theorem ModeRanges.of_modeOk {m : Mode} (h : modeOk m = true) : ModeRanges m := by
  simp only [modeOk, Bool.and_eq_true, decide_eq_true_eq] at h
  obtain ⟨⟨⟨⟨⟨⟨⟨⟨⟨⟨h1, h2⟩, h3⟩, h4⟩, h5⟩, h6⟩, h7⟩, -⟩, h9⟩, -⟩, -⟩ := h
  exact ⟨h1, h2, h3, h4, h5, h6, h7, h9⟩

/-! ### The control part of the invariant -/

/-- The clauses of `Inv` about the driver, the engine, the timers and the line. -/
structure ControlInv (s : State) : Prop where
  engine : EngineRuns s
  raster : RasterInRange s
  accepted : ModeAccepted s
  resync : ResyncIsMarked s
  region : RegionFollowsLine s

theorem Inv.controlInv {s : State} (h : Inv s) : ControlInv s :=
  ⟨h.engine, h.raster, h.accepted, h.resync, h.region⟩

/-- The control part speaks of the mode, the control state, the timers and the line state alone. -/
theorem ControlInv.congr {s t : State} (h : ControlInv s) (hm : t.mode = s.mode) (hc : t.ctl = s.ctl)
    (ht : t.tmr = s.tmr) (hl : t.ln = s.ln) : ControlInv t where
  engine := by unfold EngineRuns; rw [hc]; exact h.engine
  raster := by unfold RasterInRange; rw [hm, hc, ht, hl]; exact h.raster
  accepted := by unfold ModeAccepted; rw [hm, hc]; exact h.accepted
  resync := by unfold ResyncIsMarked; rw [hc, ht]; exact h.resync
  region := by unfold RegionFollowsLine; rw [hm, hc, hl]; exact h.region

/-- Outside rastering the engine is idle, and what the control part asks of the timers and the line is void. -/
theorem ControlInv.of_not_rastering {t : State} (hd : t.ctl.drv ≠ .rastering) (hi : t.ctl.hsm = .idle)
    (hr : t.tmr.resyncReq = false) (ha : ModeAccepted t) : ControlInv t where
  engine := ⟨fun h => absurd h hd, fun h => absurd hi h⟩
  raster h := absurd h hd
  accepted := ha
  resync := by unfold ResyncIsMarked; rw [hr, hi]; exact ⟨nofun, nofun⟩
  region := ⟨fun h => absurd h hd, by rw [hi]; exact nofun, by rw [hi]; exact nofun⟩

theorem quiet_of_rastering {s : State} (h : s.ctl.drv = .rastering) : QuietOutsideRaster s := fun hn => absurd h hn

/-- A transfer in its phase leaves no firing pending, so LTSVC finds the transfer idle (R177). -/
theorem serviceFindsIdle_of_phase {s : State} (h : TransferInPhase s) : ServiceFindsIdle s := by
  intro he
  simp only [lineServiceEnabled, Bool.and_eq_true] at he
  by_contra hx
  obtain ⟨-, hp, -⟩ := h hx
  simp [hp] at he

/-- With no transfer under way nothing is asked of its phase. -/
theorem phase_of_idle {s : State} (h : s.xfer.xst = .idle) : TransferInPhase s := fun hx => absurd h hx

/-! ### TICK -/

theorem tickTimers_ltCnt (s : State) :
    (tickTimers s).tmr.ltCnt = if timerWraps s then 0 else s.tmr.ltCnt + 1 := by
  unfold tickTimers shockFiring lineFiring countTick
  dsimp only
  split_ifs <;> rfl

theorem tickTimers_saDivCnt (s : State) :
    (tickTimers s).tmr.saDivCnt =
      if timerWraps s then (if s.tmr.saDivCnt.toNat + 1 = s.mode.saDiv.toNat then 0 else s.tmr.saDivCnt + 1)
      else s.tmr.saDivCnt := by
  unfold tickTimers shockFiring lineFiring countTick
  dsimp only
  split_ifs <;> rfl

/-- A line-timer firing becomes pending only at a wrap (R155). -/
theorem tickTimers_ltPend (s : State) (h : timerWraps s = false) : (tickTimers s).tmr.ltPend = s.tmr.ltPend := by
  unfold tickTimers shockFiring countTick
  simp only [h, Bool.false_eq_true, if_false]
  split_ifs <;> rfl

theorem tickTimers_resyncReq (s : State) : (tickTimers s).tmr.resyncReq = s.tmr.resyncReq := by
  unfold tickTimers shockFiring lineFiring countTick
  dsimp only
  split_ifs <;> rfl

/-- A count below the greatest of its width counts on without wrapping. -/
theorem toNat_add_one {n : Nat} (c : BitVec n) (h : c.toNat + 1 < 2 ^ n) : (c + 1).toNat = c.toNat + 1 := by
  have hone : (1 : BitVec n).toNat = 1 := by
    simp only [BitVec.ofNat_eq_ofNat, BitVec.toNat_ofNat]
    exact Nat.mod_eq_of_lt (by omega)
  rw [BitVec.toNat_add_of_lt] <;> rw [hone]
  exact h

/-- A counter below its limit, counted on or wrapped, stays below it. -/
theorem count_lt {n : Nat} (c limit : BitVec n) (h : c.toNat < limit.toNat) :
    (if c.toNat + 1 = limit.toNat then 0 else c + 1).toNat < limit.toNat := by
  have hlimit := limit.isLt
  split
  · simp only [BitVec.ofNat_eq_ofNat, BitVec.toNat_ofNat, Nat.zero_mod]
    omega
  · rw [toNat_add_one c (by omega)]
    omega

theorem ControlInv.tickTimers {s : State} (h : ControlInv s) : ControlInv (tickTimers s) where
  engine := by unfold EngineRuns; rw [tickTimers_ctl]; exact h.engine
  raster := by
    intro hr
    rw [tickTimers_ctl] at hr
    obtain ⟨hlt, hline, hdiv, hmode⟩ := h.raster hr
    rw [tickTimers_mode, tickTimers_ln, tickTimers_ltCnt, tickTimers_saDivCnt]
    refine ⟨?_, hline, ?_, hmode⟩
    · simpa [timerWraps] using count_lt _ _ hlt
    · split
      · exact count_lt _ _ hdiv
      · exact hdiv
  accepted := by unfold ModeAccepted; rw [tickTimers_ctl, tickTimers_mode]; exact h.accepted
  resync := by unfold ResyncIsMarked; rw [tickTimers_ctl, tickTimers_resyncReq]; exact h.resync
  region := by unfold RegionFollowsLine; rw [tickTimers_ctl, tickTimers_mode, tickTimers_ln]; exact h.region

/-- A transfer is under way only while rastering, with no firing pending, armed below the count `a` of the line timer and
streaming from BP_END to below the count `b`. -/
def TransferBelow (a b : Nat) (s : State) : Prop :=
  s.xfer.xst ≠ .idle →
    s.ctl.drv = .rastering ∧ s.tmr.ltPend = false ∧
    (s.xfer.xst = .armed → s.tmr.ltCnt.toNat < a) ∧
    (s.xfer.xst = .streaming → s.mode.bpEnd.toNat ≤ s.tmr.ltCnt.toNat ∧ s.tmr.ltCnt.toNat < b)

theorem transferInPhase_iff (s : State) :
    TransferInPhase s ↔ TransferBelow s.mode.bpEnd.toNat s.mode.actEnd.toNat s := Iff.rfl

/-- A tick counts at most one past the bounds, and no timer wraps while a transfer is under way (R152, R158). -/
theorem TransferInPhase.below_tickTimers {s : State} (h : TransferInPhase s) (hr : RasterInRange s) :
    TransferBelow (s.mode.bpEnd.toNat + 1) (s.mode.actEnd.toNat + 1) (tickTimers s) := by
  intro hx
  rw [tickTimers_xfer] at hx ⊢
  obtain ⟨hd, hp, harmed, hstream⟩ := (transferInPhase_iff s).mp h hx
  obtain ⟨-, -, -, hmode⟩ := hr hd
  have hm := ModeRanges.of_modeOk hmode
  have hlt : s.tmr.ltCnt.toNat < s.mode.actEnd.toNat := by
    cases hst : s.xfer.xst with
    | idle => exact absurd hst hx
    | armed => exact (harmed hst).trans hm.active
    | streaming => exact (hstream hst).2
  have hwrap : timerWraps s = false := by
    have := hm.frontPorch
    simp only [timerWraps, decide_eq_false_iff_not]
    omega
  have hcount : (Machine.tickTimers s).tmr.ltCnt.toNat = s.tmr.ltCnt.toNat + 1 := by
    have := s.mode.actEnd.isLt
    rw [tickTimers_ltCnt, hwrap]
    exact toNat_add_one _ (by omega)
  rw [tickTimers_ctl, tickTimers_ltPend s hwrap, tickTimers_mode, hcount]
  refine ⟨hd, hp, fun ha => ?_, fun hs => ?_⟩
  · have := harmed ha
    omega
  · obtain ⟨h1, h2⟩ := hstream hs
    omega

theorem startVideo_cases (s : State) :
    (¬(s.tmr.ltCnt = s.mode.bpEnd ∧ s.xfer.xst = .armed) ∧ startVideo s = s) ∨
      (s.tmr.ltCnt = s.mode.bpEnd ∧ s.xfer.xst = .armed ∧
        startVideo s = emit (.dmaStart s.xfer.xbuf s.xfer.xlen) { s with xfer := { s.xfer with xst := .streaming } }) := by
  unfold startVideo
  split
  · rename_i h
    exact .inr ⟨h.1, h.2, rfl⟩
  · rename_i h
    exact .inl ⟨h, rfl⟩

theorem endVideo_cases (s : State) :
    (¬(s.tmr.ltCnt = s.mode.actEnd ∧ s.xfer.xst = .streaming) ∧ endVideo s = s) ∨
      (s.xfer.xst = .streaming ∧ endVideo s =
        { setOwn s.xfer.xbuf .free (emit (.dmaStop s.xfer.xbuf) s) with xfer := { s.xfer with xst := .idle } }) := by
  unfold endVideo
  split
  · rename_i h
    exact .inr ⟨h.2, rfl⟩
  · rename_i h
    exact .inl ⟨h, rfl⟩

/-- An armed transfer starts streaming at BP_END (R157). -/
theorem TransferBelow.startVideo {s : State} {b : Nat} (h : TransferBelow (s.mode.bpEnd.toNat + 1) b s)
    (hb : s.mode.bpEnd.toNat < b) : TransferBelow s.mode.bpEnd.toNat b (startVideo s) := by
  obtain ⟨hn, he⟩ | ⟨hc, ha, he⟩ := startVideo_cases s
  · rw [he]
    intro hx
    obtain ⟨hd, hp, harmed, hstream⟩ := h hx
    refine ⟨hd, hp, fun ha => ?_, hstream⟩
    have hne : s.tmr.ltCnt.toNat ≠ s.mode.bpEnd.toNat := fun hc => hn ⟨BitVec.eq_of_toNat_eq hc, ha⟩
    have := harmed ha
    omega
  · rw [he]
    intro _
    obtain ⟨hd, hp, -, -⟩ := h (by simp [ha])
    exact ⟨hd, hp, nofun, fun _ => by simp [hc, hb]⟩

/-- A streaming transfer ends at ACT_END (R158). -/
theorem TransferBelow.endVideo {s : State} (h : TransferBelow s.mode.bpEnd.toNat (s.mode.actEnd.toNat + 1) s) :
    TransferInPhase (endVideo s) := by
  obtain ⟨hn, he⟩ | ⟨-, he⟩ := endVideo_cases s
  · rw [he]
    intro hx
    obtain ⟨hd, hp, harmed, hstream⟩ := h hx
    refine ⟨hd, hp, harmed, fun hs => ?_⟩
    have hne : s.tmr.ltCnt.toNat ≠ s.mode.actEnd.toNat := fun hc => hn ⟨BitVec.eq_of_toNat_eq hc, hs⟩
    obtain ⟨h1, h2⟩ := hstream hs
    omega
  · rw [he]
    exact phase_of_idle rfl

theorem BufferInv.startVideo {s : State} (h : BufferInv s) : BufferInv (startVideo s) := by
  obtain ⟨-, he⟩ | ⟨-, ha, he⟩ := startVideo_cases s <;> rw [he]
  · exact h
  · exact (h.stream ha).congr rfl rfl rfl rfl

theorem BufferInv.endVideo {s : State} (h : BufferInv s) : BufferInv (endVideo s) := by
  obtain ⟨-, he⟩ | ⟨hs, he⟩ := endVideo_cases s <;> rw [he]
  · exact h
  · exact h.endTransfer (by simp [hs]) rfl (fun c => setOwn_buf _ c .free _) rfl rfl

end Sys2Proof.Machine
end

section
/-! PROOF. LTSVC and the invariant (40_horizontal_fsm.md R160 to R177): the line it moves to is a line of the frame, stale
work is withdrawn before the next request is made, and a buffer is armed only before active video. -/

namespace Sys2Proof.Machine

/-! ### The line reached -/

theorem nextLine_lt (m : Mode) (line : Count) (h : line.toNat < m.lTotal.toNat) :
    (nextLine m line).toNat < m.lTotal.toNat := count_lt line m.lTotal h

theorem advanceLines_line_lt (m : Mode) (k : Nat) (p : Progress) (h : p.line.toNat < m.lTotal.toNat) :
    (advanceLines m k p).line.toNat < m.lTotal.toNat := by
  induction k generalizing p with
  | zero => exact h
  | succ k ih => exact ih _ (nextLine_lt m p.line h)

theorem serviceProgress_line_lt (s : State) (h : s.ln.line.toNat < s.mode.lTotal.toNat) :
    (serviceProgress s).line.toNat < s.mode.lTotal.toNat := advanceLines_line_lt s.mode _ _ h

/-! ### What a service leaves (R160) -/

theorem servedLine_tmr (s : State) : (servedLine s).tmr =
    { s.tmr with ltPend := false, wdCnt := 0, ltLost := if s.tmr.resyncReq then 0 else s.tmr.ltLost,
                 resyncReq := false } := by
  cases h : s.tmr.resyncReq <;> simp [servedLine, settleService, h]

theorem servedLine_line (s : State) : (servedLine s).ln.line = (serviceProgress s).line := by
  simp [servedLine, accountMiss, enterLine, moveLine]

theorem servedLine_region (s : State) : (servedLine s).ln.region = regionOf s.mode (serviceProgress s).line := by
  simp [servedLine, accountMiss, enterLine, moveLine]

theorem servedLine_hsm (s : State) : (servedLine s).ctl.hsm =
    if (servedLine s).ln.region = .visible then .activeVisible else .activeBlank := rfl

theorem servedLine_xfer (s : State) : (servedLine s).xfer = (armLine (enterLine s)).xfer := by simp [servedLine]

theorem servedLine_bufs (s : State) : (servedLine s).bufs = (armLine (enterLine s)).bufs := by simp [servedLine]

theorem servedLine_rm (s : State) : (servedLine s).rm = (requestNext (armLine (enterLine s))).rm := by simp [servedLine]

theorem ControlInv.servedLine {s : State} (h : ControlInv s) (hr : s.ctl.drv = .rastering) : ControlInv (servedLine s) := by
  have hctl : (Machine.servedLine s).ctl.drv = .rastering := by rw [servedLine_ctl, hr]
  obtain ⟨hlt, hline, hdiv, hmode⟩ := h.raster hr
  constructor
  case engine =>
    refine ⟨fun _ => ?_, fun _ => hctl⟩
    rw [servedLine_hsm]
    split_ifs <;> nofun
  case raster =>
    intro _
    rw [servedLine_tmr, servedLine_mode, servedLine_line]
    exact ⟨hlt, serviceProgress_line_lt s hline, hdiv, hmode⟩
  case accepted =>
    intro _
    rw [servedLine_mode]
    exact hmode
  case resync =>
    unfold ResyncIsMarked
    rw [servedLine_tmr, servedLine_hsm]
    split_ifs <;> simp
  case region =>
    refine ⟨fun _ => by rw [servedLine_region, servedLine_mode, servedLine_line], ?_, ?_⟩ <;> rw [servedLine_hsm] <;>
      split_ifs with hv <;> simp [hv]

/-! ### Stale work and the buffer of the line -/

/-- What the service has withdrawn when it arms the line: the waiting request, every fill, and every READY buffer of
another line (R168). -/
structure StaleWithdrawn (s : State) : Prop where
  request : s.rm.pend = false
  fills : ∀ b : Fin 8, (s.buf b).own = .filling → (s.buf b).discard = true
  ready : ∀ b : Fin 8, (s.buf b).own = .ready → (s.buf b).tag = s.ln.seq

theorem BufferInv.enterLine {s : State} (h : BufferInv s) : BufferInv (enterLine s) := by
  have hmove : BufferInv (moveLine (serviceProgress s) (signalFrame (serviceProgress s) s)) :=
    h.congr (by simp) (by simp) (by simp) (by simp)
  exact hmove.dropRequest.mapBufs _ (withdrawn_withdrawBuf _)

theorem withdrawBuf_filling (seq : BitVec 32) (x : Buf) (h : (withdrawBuf seq x).own = .filling) :
    (withdrawBuf seq x).discard = true := by
  unfold withdrawBuf at h ⊢
  split at h
  · rfl
  · rename_i hx
    split_ifs at h
    simp [hx] at h
  · simp_all
  · simp_all

theorem withdrawBuf_ready (seq : BitVec 32) (x : Buf) (h : (withdrawBuf seq x).own = .ready) :
    (withdrawBuf seq x).tag = seq := by
  unfold withdrawBuf at h ⊢
  split at h
  · simp_all
  · split_ifs at h ⊢ with ht
    exact ht
  · simp_all
  · simp_all

theorem enterLine_buf (s : State) (b : Fin 8) : (enterLine s).buf b =
    if s.hasBuf b then withdrawBuf (enterLine s).ln.seq (s.buf b) else s.buf b := by
  have hbuf : (moveLine (serviceProgress s) (signalFrame (serviceProgress s) s)).buf b = s.buf b := by simp
  have hhas : (moveLine (serviceProgress s) (signalFrame (serviceProgress s) s)).hasBuf b = s.hasBuf b := by simp
  rw [← hbuf, ← hhas]
  exact mapBufs_buf _ _ b

theorem staleWithdrawn_enterLine {s : State} (h : BufferInv s) : StaleWithdrawn (enterLine s) := by
  have hold (b : Fin 8) (hb : s.hasBuf b = false) : (s.buf b).own = .free := by rw [h.params.2 b hb]; rfl
  refine ⟨rfl, fun b hb => ?_, fun b hb => ?_⟩ <;> rw [enterLine_buf] at hb ⊢ <;> split_ifs at hb ⊢ with he
  · exact withdrawBuf_filling _ _ hb
  · simp [hold b (Bool.eq_false_iff.mpr he)] at hb
  · exact withdrawBuf_ready _ _ hb
  · simp [hold b (Bool.eq_false_iff.mpr he)] at hb

/-- Arming keeps the buffer part, when no transfer is under way (R169 to R171). -/
theorem BufferInv.armLine {s : State} (h : BufferInv s) (hx : s.xfer.xst = .idle) : BufferInv (armLine s) := by
  obtain ⟨-, he⟩ | ⟨r, hr, harm⟩ := armLine_cases s
  · rwa [he]
  · obtain ⟨-, hready, -⟩ := readyForLine_some s r hr
    obtain ⟨-, -, -, he⟩ | ⟨-, he⟩ := harm <;> rw [he]
    · exact h.arm hx r hready rfl (fun c => setOwn_buf r c .xfer s) rfl rfl
    · refine h.withdraw rfl (fun b => ?_) (fun b hb => ?_) rfl rfl id rfl <;> rw [setOwn_buf]
      · split_ifs with hb
        · rw [hb]
          exact .of_freed hready
        · exact .refl _
      · rw [if_neg]
        rintro rfl
        simp [h.hasBuf b (by simp [hready])] at hb

/-- After arming no READY buffer is left: the one of this line was armed or freed (R169 to R171). -/
theorem StaleWithdrawn.armLine {s : State} (h : StaleWithdrawn s) (hb : BufferInv s) : NoLiveWork (armLine s) := by
  obtain ⟨hnone, he⟩ | ⟨r, hr, harm⟩ := armLine_cases s
  · rw [he]
    refine fun b => ⟨fun hready => ?_, h.fills b⟩
    have := (firstBuf_none _ s).mp hnone b (hb.hasBuf b (by simp [hready]))
    simp [hready, h.ready b hready] at this
  · obtain ⟨-, hready, -⟩ := readyForLine_some s r hr
    have hother (b : Fin 8) (hne : b ≠ r) : (s.buf b).own ≠ .ready := fun hb' => hne (hb.oneReady b r hb' hready)
    have hafter (o : Own) (hr : o ≠ .ready) (hf : o ≠ .filling) : NoLiveWork (setOwn r o s) := by
      intro b
      rw [setOwn_buf]
      split_ifs with hbr
      · exact ⟨hr, fun ho => absurd ho hf⟩
      · exact ⟨hother b hbr, h.fills b⟩
    obtain ⟨-, -, -, he⟩ | ⟨-, he⟩ := harm <;> rw [he]
    · exact hafter .xfer nofun nofun
    · exact hafter .free nofun nofun

theorem BufferInv.requestNext {s : State} (h : BufferInv s) (hn : NoLiveWork s) : BufferInv (requestNext s) := by
  unfold Machine.requestNext
  dsimp only
  split_ifs
  · exact h.request hn _ _
  · exact h

theorem BufferInv.servedLine {s : State} (h : BufferInv s) (hx : s.xfer.xst = .idle) : BufferInv (servedLine s) := by
  have henter := h.enterLine
  have harm := henter.armLine (by rw [enterLine_xfer, hx])
  have hlive := (staleWithdrawn_enterLine h).armLine henter
  exact (harm.requestNext hlive).congr (by simp) (by simp [servedLine_bufs]) (servedLine_rm s) (by simp [servedLine_xfer])

/-- A line is armed before active video (R169, R171). -/
theorem phase_servedLine {s : State} (hr : s.ctl.drv = .rastering) (hx : s.xfer.xst = .idle) :
    TransferInPhase (servedLine s) := by
  intro hne
  rw [servedLine_xfer] at hne ⊢
  rw [servedLine_tmr, servedLine_mode, servedLine_ctl]
  obtain ⟨-, he⟩ | ⟨r, -, ⟨-, hlt, -, he⟩ | ⟨-, he⟩⟩ := armLine_cases (enterLine s) <;> rw [he] at hne ⊢
  · exact absurd (by simpa using hx) hne
  · refine ⟨hr, rfl, fun _ => ?_, nofun⟩
    simpa using hlt
  · exact absurd (by simpa using hx) hne

end Sys2Proof.Machine
end

section
/-! PROOF. Every step keeps the invariant (10_state.md R65): every effect leaves a state that meets it but for the waiting
request, and Dispatch serves that request (42_buffer_controller.md R232, R233). -/

namespace Sys2Proof.Machine

/-! ### The storage -/

theorem Memory.mem_insert (a : Nat) (v : Byte) (m : List Host.Cell) (c : Host.Cell) (h : c ∈ Memory.insert a v m) :
    c = (a, v) ∨ c ∈ m := by
  induction m with
  | nil => simpa [Memory.insert] using h
  | cons d r ih =>
    unfold Memory.insert at h
    split_ifs at h <;> simp only [List.mem_cons] at h ⊢
    · exact h
    · exact h.imp id .inr
    · obtain h | h := h
      · exact .inr (.inl h)
      · exact (ih h).imp id .inr

/-- The byte addresses of the buffers that exist are storage addresses (R61, R82). -/
theorem storageAddr_bufAddr (p : Params) (b : Fin 8) (o : Nat) (hp : p.wf = true) (hb : b.val < p.nbuf)
    (ho : o < p.bufBytes) : storageAddr p (bufAddr b o) = true := by
  simp only [Params.wf, Bool.and_eq_true, decide_eq_true_eq] at hp
  obtain ⟨-, hbytes⟩ := hp
  simp only [storageAddr, Bool.and_eq_true, decide_eq_true_eq]
  unfold bufAddr
  omega

/-- A write inside an existing buffer lists only bytes that exist. -/
theorem StorageOk.bufWrite {s : State} (h : StorageOk s) (b : Fin 8) (o n : Nat) (d : Word) (hp : s.params.wf = true)
    (hb : s.hasBuf b = true) (ho : o + n ≤ s.params.bufBytes) : StorageOk (bufWrite b o n d s) := by
  induction n generalizing o d s with
  | zero => exact h
  | succ n ih =>
    refine ih (s := writeByte b o (d.setWidth 8) s) ⟨writeByte_wf b o _ s h.1, fun c hc => ?_⟩ _ _ hp hb
      (show o + 1 + n ≤ s.params.bufBytes by omega)
    obtain rfl | hc := Memory.mem_insert _ _ _ _ hc
    · exact storageAddr_bufAddr s.params b o hp ((hasBuf_iff s b).mp hb) (by omega)
    · exact h.2 c hc

theorem Effect.storage {s u : State} {i : Instr} (h : Effect s i u) (hs : Inv s) : StorageOk u := by
  obtain hm | ⟨n, o, d, b, hb, hc, rfl⟩ := h.mem_cases
  · unfold StorageOk
    rw [hm, h.params_eq]
    exact hs.storage
  · obtain ⟨-, ho, -⟩ := (windowCheck_none_iff b o n s).mp hc
    exact hs.storage.bufWrite b _ _ d hs.params.1 hb ho

/-! ### Before Dispatch -/

/-- What an effect leaves: the invariant but for the waiting request, which Dispatch serves, and for the storage. -/
structure BeforeDispatch (s : State) : Prop where
  buffers : BufferInv s
  control : ControlInv s
  phase : TransferInPhase s
  quiet : QuietOutsideRaster s

theorem Inv.beforeDispatch {s : State} (h : Inv s) : BeforeDispatch s := ⟨h.bufferInv, h.controlInv, h.phase, h.quiet⟩

theorem Inv.of_parts {s : State} (h : BeforeDispatch s) (hw : WaitingForCause s) (hm : StorageOk s) : Inv s where
  params := h.buffers.params
  engine := h.control.engine
  fill := h.buffers.fill
  transfer := h.buffers.transfer
  oneReady := h.buffers.oneReady
  discardFilling := h.buffers.discardFilling
  ranges := h.buffers.ranges
  waiting := hw
  raster := h.control.raster
  serviceIdle := serviceFindsIdle_of_phase h.phase
  accepted := h.control.accepted
  phase := h.phase
  onePreparation := h.buffers.onePreparation
  quiet := h.quiet
  resync := h.control.resync
  region := h.control.region
  storage := hm

/-- After Dispatch a request waits only for cause (R65 item 7, R232). -/
theorem waitingForCause_dispatchFill (s : State) : WaitingForCause (dispatchFill s) := by
  intro hp
  by_cases hc : (s.rm.pend && !s.rm.busy) = true
  · rw [dispatchFill, if_pos hc] at hp ⊢
    cases hf : firstBuf (fun x => decide (x.own = .free)) s with
    | some b => simp [hf] at hp
    | none => exact .inr fun b hb => by simpa using (firstBuf_none _ s).mp hf b hb
  · rw [dispatchFill, if_neg hc] at hp ⊢
    exact .inl (by simpa [hp] using hc)

/-- Dispatch completes the invariant (R232, R233). -/
theorem BeforeDispatch.inv_dispatchFill {s : State} (h : BeforeDispatch s) (hm : StorageOk s) : Inv (dispatchFill s) := by
  refine .of_parts ?_ (waitingForCause_dispatchFill s) ?_
  · obtain he | ⟨b, hpend, hbusy, hb, hfree, he⟩ := dispatchFill_cases s <;> rw [he]
    · exact h
    · refine ⟨h.buffers.dispatchTo b hb hfree hpend hbusy, h.control.congr rfl rfl rfl rfl, h.phase, fun hd => ?_⟩
      obtain ⟨-, -, -, -, -, hnone, -⟩ := h.quiet hd
      simp [hpend] at hnone
  · unfold StorageOk
    rw [dispatchFill_mem, dispatchFill_params]
    exact hm

/-! ### The effects -/

/-- No transfer is under way outside rastering. -/
theorem Inv.idle_of_not_rastering {s : State} (h : Inv s) (hd : s.ctl.drv ≠ .rastering) : s.xfer.xst = .idle := by
  by_contra hx
  exact hd (h.phase hx).1

theorem Inv.noLiveWork {s : State} (h : Inv s) (hd : s.ctl.drv ≠ .rastering) : NoLiveWork s := by
  obtain ⟨-, -, -, -, -, -, hlive⟩ := h.quiet hd
  exact hlive

/-- An effect from outside rastering that stays there, with the timers, the line and the transfer as they were. -/
theorem Inv.beforeDispatch_outside {s u : State} (h : Inv s) (hs : s.ctl.drv ≠ .rastering) (hd : u.ctl.drv ≠ .rastering)
    (hh : u.ctl.hsm = s.ctl.hsm) (ht : u.tmr = s.tmr) (hl : u.ln = s.ln) (hx : u.xfer = s.xfer)
    (hp : u.rm.pend = s.rm.pend) (ha : ModeAccepted u) (hb : BufferInv u) (hlive : NoLiveWork u) : BeforeDispatch u := by
  have hidle : s.ctl.hsm = .idle := by
    by_contra hn
    exact hs (h.engine.mpr hn)
  obtain ⟨h1, h2, h3, h4, h5, h6, -⟩ := h.quiet hs
  refine ⟨hb, .of_not_rastering hd (by rw [hh, hidle]) (by rw [ht, h4]) ha,
    phase_of_idle (by rw [hx]; exact h.idle_of_not_rastering hs), fun _ => ?_⟩
  rw [ht, hl, hp]
  exact ⟨h1, h2, h3, h4, h5, h6, hlive⟩

/-- TICK while rastering (R150). -/
theorem Inv.beforeDispatch_tick {s : State} (h : Inv s) (hr : s.ctl.drv = .rastering) :
    BeforeDispatch (endVideo (startVideo (tickTimers s))) where
  buffers := (h.bufferInv.congr (t := tickTimers s) (by simp) (by simp) (by simp) (by simp)).startVideo.endVideo
  control := h.controlInv.tickTimers.congr (by simp) (by simp) (by simp) (by simp)
  phase := by
    obtain ⟨-, -, -, hmode⟩ := h.raster hr
    have hm := (ModeRanges.of_modeOk hmode).active
    have htimers := TransferInPhase.below_tickTimers h.phase h.raster
    rw [← tickTimers_mode s] at htimers hm
    have hstart := htimers.startVideo (by omega)
    rw [← startVideo_mode (tickTimers s)] at hstart
    exact hstart.endVideo
  quiet := quiet_of_rastering (by simpa using hr)

/-- LTSVC, granted (R160). -/
theorem Inv.beforeDispatch_ltsvc {s : State} (h : Inv s) (he : lineServiceEnabled s = true) :
    BeforeDispatch (servedLine s) := by
  have hx := h.serviceIdle he
  simp only [lineServiceEnabled, Bool.and_eq_true, decide_eq_true_eq] at he
  obtain ⟨hr, -⟩ := he
  exact ⟨h.bufferInv.servedLine hx, h.controlInv.servedLine hr, phase_servedLine hr hx,
    quiet_of_rastering (by rw [servedLine_ctl, hr])⟩

/-- SASVC, granted (R200). -/
theorem Inv.beforeDispatch_sasvc {s : State} (h : Inv s) (he : shockServiceEnabled s = true) :
    BeforeDispatch (servedShock s) := by
  simp only [shockServiceEnabled, Bool.and_eq_true, decide_eq_true_eq] at he
  obtain ⟨⟨hr, -⟩, -⟩ := he
  unfold servedShock
  split
  · exact ⟨h.bufferInv.congr rfl rfl rfl rfl,
      ⟨⟨fun _ => nofun, fun _ => hr⟩, h.raster, h.accepted, ⟨fun _ => rfl, fun _ => rfl⟩, h.region.1, nofun, nofun⟩,
      h.phase, quiet_of_rastering hr⟩
  · exact ⟨h.bufferInv.congr rfl rfl rfl rfl, ⟨h.engine, h.raster, h.accepted, h.resync, h.region⟩, h.phase,
      quiet_of_rastering hr⟩

/-- CONFIGURE outside rastering (R283). -/
theorem Inv.beforeDispatch_configure {s : State} (h : Inv s) (hd : s.ctl.drv ≠ .rastering) :
    BeforeDispatch (cmdConfigure s) := by
  have hdrv : (cmdConfigure s).ctl.drv = .uninit ∨ (cmdConfigure s).ctl.drv = .configured ∧ modeOk s.mode = true := by
    unfold cmdConfigure
    split_ifs with h1 h2 h3
    · exact absurd h1 hd
    · exact .inl rfl
    · exact .inl rfl
    · exact .inr ⟨rfl, by simpa using h2⟩
  refine h.beforeDispatch_outside hd (by obtain he | ⟨he, -⟩ := hdrv <;> rw [he] <;> nofun) (by rw [cmdConfigure_ctl])
    (by simp) (by simp) (by simp) (by simp) (fun hu => ?_) (h.bufferInv.congr (by simp) (by simp) (by simp) (by simp))
    (fun b => ?_)
  · obtain he | ⟨-, hm⟩ := hdrv
    · exact absurd he hu
    · rwa [cmdConfigure_mode]
  · rw [cmdConfigure_buf]
    exact h.noLiveWork hd b

/-- A write to a mode register outside rastering (R276). -/
theorem Inv.beforeDispatch_modeWrite {s : State} (h : Inv s) (r : HostReg) (d : Word) (hd : s.ctl.drv ≠ .rastering) :
    BeforeDispatch (modeWrite r d s) := by
  have hdrv : (Machine.modeWrite r d s).ctl.drv = .uninit := by
    rw [Machine.modeWrite, if_neg hd]
    cases hs : s.ctl.drv <;> simp_all
  refine h.beforeDispatch_outside hd (by rw [hdrv]; nofun) (by rw [modeWrite_ctl]) (by simp) (by simp) (by simp) (by simp)
    (fun hu => absurd hdrv hu) (h.bufferInv.congr (by simp) (by simp) (by simp) (by simp)) (fun b => ?_)
  rw [modeWrite_buf]
  exact h.noLiveWork hd b

/-- RM_DONE with a fill in service (R236). -/
theorem Inv.beforeDispatch_finishFill {s : State} (h : Inv s) (d : Word) (hbusy : s.rm.busy = true) :
    BeforeDispatch (finishFill d s) := by
  have hbuf := h.bufferInv.finishFill d hbusy
  by_cases hr : s.ctl.drv = .rastering
  · refine ⟨hbuf, h.controlInv.congr (by simp) (by simp) (by simp) (by simp), ?_,
      quiet_of_rastering (by simpa using hr)⟩
    unfold TransferInPhase
    rw [finishFill_xfer, finishFill_ctl, finishFill_tmr, finishFill_mode]
    exact h.phase
  · have haccepted : ModeAccepted (Machine.finishFill d s) := by
      unfold ModeAccepted
      rw [finishFill_ctl, finishFill_mode]
      exact h.accepted
    exact h.beforeDispatch_outside hr (by simpa using hr) (by simp) (by simp) (by simp) (by simp) (by simp) haccepted hbuf
      ((h.noLiveWork hr).finishFill d ((h.fill _).mpr ⟨hbusy, rfl⟩))

/-! ### START and STOP -/

/-- Line 0 is a vertical-blank line (R41, R166). -/
theorem regionOf_zero {m : Mode} (h : ModeRanges m) : regionOf m 0 = if m.vsStart = 0 then .vsync else .blank := by
  have hvb : ¬ vb m ≤ 0 := by
    have := h.blank
    unfold vb
    omega
  have hvs : m.vsStart.toNat ≤ 0 ↔ m.vsStart = 0 := by
    rw [Nat.le_zero]
    exact ⟨fun h0 => BitVec.eq_of_toNat_eq h0, fun h0 => by rw [h0]; rfl⟩
  have hpos : 0 < m.vsEnd.toNat := Nat.zero_lt_of_lt h.vsync
  simp [regionOf, hvb, hvs, hpos]

/-- START makes its request with no live work: outside rastering nothing is READY and every fill is discarded (R285). -/
theorem BufferInv.startRaster {s : State} (h : BufferInv s) (hlive : NoLiveWork s) : BufferInv (startRaster s) := by
  have hrm : BufferInv { s with rm := (Machine.startRaster s).rm } := by
    unfold Machine.startRaster
    rw [mapBufs_rm]
    dsimp only
    split_ifs
    · exact h.request hlive _ _
    · exact h.dropRequest
  exact (hrm.mapBufs freeReady withdrawn_freeReady).congr rfl rfl rfl rfl

/-- START (R285). -/
theorem Inv.beforeDispatch_start {s : State} (h : Inv s) (hd : s.ctl.drv = .configured ∨ s.ctl.drv = .stopped) :
    BeforeDispatch (startRaster s) := by
  have hn : s.ctl.drv ≠ .rastering := by obtain hd | hd := hd <;> rw [hd] <;> nofun
  have hmode : modeOk s.mode = true := h.accepted (by obtain hd | hd := hd <;> rw [hd] <;> nofun)
  have hm := ModeRanges.of_modeOk hmode
  refine ⟨h.bufferInv.startRaster (h.noLiveWork hn), ?_, phase_of_idle (h.idle_of_not_rastering hn),
    quiet_of_rastering rfl⟩
  exact {
    engine := ⟨fun _ => nofun, fun _ => rfl⟩
    raster := fun _ => ⟨Nat.zero_lt_of_lt hm.frontPorch, Nat.zero_lt_of_lt hm.blank, hm.divider, hmode⟩
    accepted := fun _ => hmode
    resync := ⟨nofun, nofun⟩
    region := ⟨fun _ => (regionOf_zero hm).symm, nofun, nofun⟩ }

theorem stopTransfer_cases (s : State) :
    (s.xfer.xst = .idle ∧ stopTransfer s = s) ∨
      (s.xfer.xst ≠ .idle ∧ (stopTransfer s).xfer.xst = .idle ∧ ∀ c, (stopTransfer s).buf c =
        if c = s.xfer.xbuf then { s.buf s.xfer.xbuf with own := .free } else s.buf c) := by
  unfold stopTransfer
  dsimp only
  cases h : s.xfer.xst with
  | idle => exact .inl ⟨rfl, by simp⟩
  | armed => exact .inr ⟨nofun, rfl, fun c => setOwn_buf _ c .free s⟩
  | streaming => exact .inr ⟨nofun, rfl, fun c => setOwn_buf _ c .free (emit _ s)⟩

theorem BufferInv.stopTransfer {s : State} (h : BufferInv s) : BufferInv (stopTransfer s) := by
  obtain ⟨-, he⟩ | ⟨hx, hidle, hbuf⟩ := stopTransfer_cases s
  · rwa [he]
  · exact h.endTransfer hx (by simp) hbuf (by simp) hidle

theorem stopTransfer_idle (s : State) : (stopTransfer s).xfer.xst = .idle := by
  obtain ⟨hx, he⟩ | ⟨-, hidle, -⟩ := stopTransfer_cases s
  · rwa [he]
  · exact hidle

theorem stopBuf_not_live (x : Buf) :
    (stopBuf x).own ≠ .ready ∧ ((stopBuf x).own = .filling → (stopBuf x).discard = true) := by
  unfold stopBuf
  split <;> simp_all

theorem noLiveWork_stopRaster {s : State} (h : BufferInv s) : NoLiveWork (stopRaster s) := by
  intro b
  have hbuf : (stopRaster s).buf b =
    if (stopTransfer s).hasBuf b then stopBuf ((stopTransfer s).buf b) else (stopTransfer s).buf b := mapBufs_buf _ _ b
  rw [hbuf]
  split_ifs with hb
  · exact stopBuf_not_live _
  · rw [h.stopTransfer.params.2 b (Bool.eq_false_iff.mpr hb)]
    exact ⟨nofun, nofun⟩

/-- STOP (R287). -/
theorem Inv.beforeDispatch_stop {s : State} (h : Inv s) (hd : s.ctl.drv = .rastering) : BeforeDispatch (stopRaster s) where
  buffers := (h.bufferInv.stopTransfer.mapBufs stopBuf withdrawn_stopBuf).dropRequest.congr rfl rfl rfl rfl
  control := .of_not_rastering nofun rfl rfl fun _ => by
    rw [stopRaster_mode]
    exact h.accepted (by rw [hd]; nofun)
  phase := phase_of_idle (stopTransfer_idle s)
  quiet _ := ⟨rfl, rfl, rfl, rfl, rfl, rfl, noLiveWork_stopRaster h.bufferInv⟩

/-! ### Every step -/

/-- Every effect leaves a state that meets the invariant but for the waiting request and the storage. -/
theorem Effect.beforeDispatch {s u : State} {i : Instr} (he : Effect s i u) (h : Inv s) : BeforeDispatch u := by
  have hb := h.bufferInv
  have hc := h.controlInv
  induction he with
  | report | periph | setOutput =>
    exact ⟨hb.congr rfl rfl rfl rfl, ⟨h.engine, h.raster, h.accepted, h.resync, h.region⟩, h.phase, h.quiet⟩
  | suppress hr =>
    exact ⟨hb.congr rfl rfl rfl rfl, ⟨h.engine, h.raster, h.accepted, h.resync, h.region⟩, h.phase,
      quiet_of_rastering hr⟩
  | tick hr => exact h.beforeDispatch_tick hr
  | ltsvc he => exact h.beforeDispatch_ltsvc he
  | sasvc he => exact h.beforeDispatch_sasvc he
  | configure hd => exact h.beforeDispatch_configure hd
  | start hd => exact h.beforeDispatch_start hd
  | stop hd => exact h.beforeDispatch_stop hd
  | mode r d hd => exact h.beforeDispatch_modeWrite r d hd
  | fill d hbusy => exact h.beforeDispatch_finishFill d hbusy
  | store n o d b =>
    rw [bufWrite_eq]
    exact ⟨hb.congr rfl rfl rfl rfl, hc.congr rfl rfl rfl rfl, h.phase, h.quiet⟩
  | command d u _ ih => exact ih
  | covered n a d u _ _ ih => exact ih

/-- Every operation keeps the invariant. -/
theorem exec_keeps_inv (i : Instr) (s t : State) (hs : Inv s) (h : exec i s = .next t) : Inv t := by
  by_cases hi : i = .rst
  · subst hi
    rw [exec_rst s t h]
    exact inv_resetWith _ _ _ _ hs.params.1
  · obtain ⟨u, hu, rfl⟩ := exec_next i s t hi h
    exact (hu.beforeDispatch hs).inv_dispatchFill (hu.storage hs)

/-- Taking an operation off the schedule keeps the invariant, which speaks of neither schedule nor events. -/
theorem Inv.beginStep {s : State} (h : Inv s) (rest : List OpWord) : Inv (beginStep rest s) :=
  .of_parts ⟨h.bufferInv.congr rfl rfl rfl rfl, h.controlInv.congr rfl rfl rfl rfl, h.phase, h.quiet⟩ h.waiting
    h.storage

/-- Settles O13: the invariant is carried to the effect of the operation, and from there over its Dispatch. -/
theorem stepKeepsInvariant : Obligations.StepKeepsInvariant := by
  intro s t hs h
  cases hin : s.inputs with
  | nil => rw [step_nil s hin] at h; cases h
  | cons w rest =>
    rw [step_cons s w rest hin] at h
    exact exec_keeps_inv _ _ t (hs.beginStep rest) h

end Sys2Proof.Machine
end

section
/-! PROOF. The host bus and the buffer windows (20_memory.md R84 to R90): refused accesses, the bytes an accepted window
write stores, and what a read leaves as it was. -/

namespace Sys2Proof.Machine

/-! ### Accesses that no row covers -/

/-- A plain HRD to a target that has no row of its own is a refused access (20_memory.md R86, R87). -/
theorem exec_hrd_uncovered (n : Size) (a : Addr) (s : State) (h : coveredTarget n a = false) :
    exec (.hrd n a) s = .next (finishRead 0 (raise .badAccess s)) := by
  show Host.Outcome.next (hostRead n.code a s) = _
  simp only [coveredTarget, Bool.or_eq_false_iff, Bool.and_eq_false_iff, decide_eq_false_iff_not] at h
  obtain ⟨hw, hn | hr⟩ := h
  · simp [hostRead, hw, hn]
  · have hm : mappedReg a s = none := by simp_all [mappedReg]
    simp [hostRead, hw, hm]

/-- Registers stand at word-aligned addresses of the first 256 bytes alone (R67). -/
theorem ofOffset?_eq_none (a : Addr) (h : 0x100 ≤ a.toNat ∨ a.toNat % 4 ≠ 0) : HostReg.ofOffset? a = none := by
  cases hr : HostReg.ofOffset? a with
  | none => rfl
  | some r =>
    have hlow := r.offset_low
    rw [HostReg.offset_of_ofOffset? a r hr] at hlow
    omega

theorem inWindow_eq_false (a : Addr) (h : a.toNat < 0x1000 ∨ 0x9000 ≤ a.toNat) : inWindow a = false := by
  simp only [inWindow, Bool.and_eq_false_iff, decide_eq_false_iff_not]
  omega

/-- Outside the window an access is covered only as an aligned word access of a register (R115). -/
theorem coveredTarget_eq_false (n : Size) (a : Addr) (hw : a.toNat < 0x1000 ∨ 0x9000 ≤ a.toNat)
    (hr : n ≠ .word ∨ HostReg.ofOffset? a = none) : coveredTarget n a = false := by
  rw [coveredTarget, inWindow_eq_false a hw]
  obtain hn | hr := hr
  · simp [hn]
  · simp [hr]

/-- Settles O52: under each of the conditions no row covers the target. -/
theorem badHostAccessesAreRefused : Obligations.BadHostAccessesAreRefused := by
  intro n a d s h
  have hc : coveredTarget n a = false := by
    obtain ⟨hlow, hn | ha⟩ | ⟨hlow, hr⟩ | ⟨hlo, hhi⟩ | hhi | hwf | hwf := h
    · exact coveredTarget_eq_false n a (by omega) (.inl hn)
    · exact coveredTarget_eq_false n a (by omega) (.inr (ofOffset?_eq_none a (.inr ha)))
    · exact coveredTarget_eq_false n a (by omega) (.inr hr)
    · exact coveredTarget_eq_false n a (by omega) (.inr (ofOffset?_eq_none a (.inl hlo)))
    · exact coveredTarget_eq_false n a (by omega) (.inr (ofOffset?_eq_none a (.inl (by omega))))
    · simpa [Instr.wellFormed] using hwf
    · simpa [Instr.wellFormed] using hwf
  exact ⟨exec_hwr_uncovered n a d s hc, exec_hrd_uncovered n a s hc⟩

/-! ### Window writes -/

/-- A window write that passes its checks is BufWrite (R240). -/
theorem windowWrite_of_check (b : Fin 8) (o : BitVec 12) (n : Size) (d : Word) (s : State) (hb : s.hasBuf b = true)
    (hc : windowCheck b o n s = none) : windowWrite b o n d s = bufWrite b o.toNat n.bytes d s := by
  rw [windowWrite, if_pos hb, hc]

/-- Byte `i` of a data word, by shifting it down (R84). -/
theorem shiftRight_setWidth_eq_extract (d : Word) (k : Nat) : (d >>> k).setWidth 8 = d.extractLsb' k 8 := by
  ext j hj
  simp

/-- Settles O42: the write is BufWrite, which touches the storage alone, and Dispatch leaves the storage. -/
theorem windowWriteStoresLittleEndian : Obligations.WindowWriteStoresLittleEndian := by
  intro b n o d s hb halign hbound hown
  have hc : windowCheck b o n s = none := (windowCheck_none_iff b o n s).mpr ⟨halign, hbound, hown⟩
  refine ⟨dispatchFill (bufWrite b o.toNat n.bytes d s), ?_, fun i hi => ?_, fun c p hp hn => ?_, ?_⟩
  · rw [exec_ofWindowWrite, writeWindow, windowWrite_of_check b o n d s ((hasBuf_iff s b).mpr hb) hc]
  · rw [readByte_dispatchFill, readByte_bufWrite_same b _ _ i d s hi, shiftRight_setWidth_eq_extract]
  · rw [readByte_dispatchFill]
    by_contra hne
    exact hn (bufWrite_changed b c _ _ p d s hp (aligned_in_window o n halign) hne)
  · rw [dispatchFill_mem, ← bufWrite_eq]

/-! ### Reads -/

/-- The OP code under which an operation is spelled; a command word has none (R111, R112). -/
def opCode (i : Instr) : Option (BitVec 8) :=
  match encode i with
  | .txn w => some (txnOp w)
  | .cmd _ => none

theorem opCode_of_encode {i : Instr} {op : BitVec 8} {sz : BitVec 2} {a : Addr} {d : Word}
    (h : encode i = .txn (txnWord op sz a d)) : opCode i = some op := by
  rw [opCode, h]
  exact congrArg some (txnOp_txnWord op sz a d)

theorem opCode_ofRead (r : HostReg) : opCode (Instr.ofRead r) = some 0x03#8 := by
  refine opCode_of_encode (sz := Size.word.code) (a := r.offset) (d := 0) ?_
  cases r with
  | bufstat b | buftag b | bufline b => fin_cases b <;> rfl
  | _ => rfl

theorem opCode_ofWrite (d : Word) (r : HostReg) : opCode (Instr.ofWrite d r) = some 0x02#8 := by
  refine opCode_of_encode (sz := Size.word.code) (a := r.offset) (d := d) ?_
  cases r with
  | bufstat b | buftag b | bufline b => fin_cases b <;> rfl
  | _ => rfl

theorem opCode_ofWindowRead (n : Size) (o : BitVec 12) (b : Fin 8) :
    opCode (Instr.ofWindowRead n o b) = some 0x03#8 := by
  refine opCode_of_encode (sz := n.code) (a := windowAddr b o) (d := 0) ?_
  fin_cases b <;> rfl

theorem opCode_ofWindowWrite (n : Size) (o : BitVec 12) (d : Word) (b : Fin 8) :
    opCode (Instr.ofWindowWrite n o d b) = some 0x02#8 := by
  refine opCode_of_encode (sz := n.code) (a := windowAddr b o) (d := d) ?_
  fin_cases b <;> rfl

/-- The effect of a host-bus read is a report: an error bit and the value (R233, R271). -/
theorem Effect.of_hostRead {s u : State} {i : Instr} (h : Effect s i u) (hi : opCode i = some 0x03#8) :
    u = { s with err := u.err, events := u.events } := by
  cases h with
  | report => rfl
  | mode r d => simp [opCode_ofWrite] at hi
  | store n o d b => simp [opCode_ofWindowWrite] at hi
  | _ => simp [opCode, encode, hwrWord, cmdWord] at hi

/-- Dispatch changes nothing where a request waits only for cause (R65 item 7, R232). -/
theorem dispatchFill_of_waitingForCause {s : State} (h : WaitingForCause s) : dispatchFill s = s := by
  obtain he | ⟨b, hpend, hbusy, hb, hfree, -⟩ := dispatchFill_cases s
  · exact he
  · obtain hb' | hnone := h hpend
    · simp [hbusy] at hb'
    · exact absurd hfree (hnone b hb)

theorem dispatchFill_report {s : State} (h : Inv s) (err : ErrBits) (evs : List Event) :
    dispatchFill { s with err := err, events := evs } = { s with err := err, events := evs } :=
  dispatchFill_of_waitingForCause h.waiting

/-- A host-bus read that completes changes an error bit and the output list at most (R90). -/
theorem Completes.hostRead_frame {i : Instr} {s : State} (h : Completes i s) (hs : Inv s)
    (hi : opCode i = some 0x03#8) : ∃ t, exec i s = .next t ∧ t = { s with err := t.err, events := t.events } := by
  obtain ⟨t, he, u, hu, rfl⟩ := h
  refine ⟨_, he, ?_⟩
  rw [hu.of_hostRead hi, dispatchFill_report hs]

/-- A DRD of an invariant state returns a byte, and does nothing else (R246). -/
theorem drd_frame (o : Addr) (s : State) (hs : Inv s) :
    ∃ v, exec (.drd o) s = .next { s with events := s.events ++ [.dmaData v] } := by
  have hdone (v : Byte) : finishDma v s = { s with events := s.events ++ [.dmaData v] } :=
    dispatchFill_report hs s.err _
  show ∃ v, execDrd o s = _
  unfold execDrd
  split
  · rename_i hits
    exact ⟨_, by rw [if_pos (dmaByteExists_of_inv s hs o hits), hdone]⟩
  · exact ⟨_, by rw [hdone]⟩

/-- Settles O38: a read only reports, and in an invariant state its Dispatch finds no request to serve. -/
theorem readsHaveNoSideEffects : Obligations.ReadsHaveNoSideEffects := by
  intro s hs
  refine ⟨fun i hi => ?_, fun o => ?_⟩
  · obtain ⟨r, rfl⟩ | ⟨n, o, b, rfl⟩ | rfl | ⟨n, a, rfl⟩ := hi
    · exact (completes_ofRead r s).hostRead_frame hs (opCode_ofRead r)
    · exact (completes_ofWindowRead n o b s).hostRead_frame hs (opCode_ofWindowRead n o b)
    · exact Completes.hostRead_frame ⟨_, rfl, .refusedRead _ _ _ s⟩ hs (opCode_of_encode rfl)
    · exact Completes.hostRead_frame ⟨_, rfl, .hostRead _ _ _ s⟩ hs (opCode_of_encode rfl)
  · obtain ⟨v, he⟩ := drd_frame o s hs
    exact ⟨_, he, rfl⟩

end Sys2Proof.Machine
end

section
/-! PROOF. The decoder and the encoder (30_encoding.md R110 to R122, R132): one equation for each operation code, the second
decode by target, and from them the round trip, the well-formedness of what is decoded, and the bits that are ignored. -/

namespace Sys2Proof

/-! ### The operation codes of transaction words (R112, R113) -/

theorem decodeTxn_tick {w : BitVec 64} (h : txnOp w = 0x01#8) : decodeTxn w = .tick := by simp [decodeTxn, h]

theorem decodeTxn_hwr {w : BitVec 64} (h : txnOp w = 0x02#8) :
    decodeTxn w = decodeHwr (txnSz w) (txnAddr w) (txnData w) := by simp [decodeTxn, h]

theorem decodeTxn_hrd {w : BitVec 64} (h : txnOp w = 0x03#8) : decodeTxn w = decodeHrd (txnSz w) (txnAddr w) := by
  simp [decodeTxn, h]

theorem decodeTxn_drd {w : BitVec 64} (h : txnOp w = 0x04#8) : decodeTxn w = .drd (txnAddr w) := by simp [decodeTxn, h]

theorem decodeTxn_ltsvc {w : BitVec 64} (h : txnOp w = 0x05#8) : decodeTxn w = .ltsvc := by simp [decodeTxn, h]

theorem decodeTxn_sasvc {w : BitVec 64} (h : txnOp w = 0x06#8) : decodeTxn w = .sasvc := by simp [decodeTxn, h]

theorem decodeTxn_rst {w : BitVec 64} (h : txnOp w = 0x07#8) : decodeTxn w = .rst := by simp [decodeTxn, h]

theorem decodeTxn_periph {w : BitVec 64} (h : txnOp w = 0x08#8) : decodeTxn w = .periph ((txnData w).getLsbD 0) := by
  simp [decodeTxn, h]

/-- The operation codes that spell no operation (R113). -/
def ReservedOpCode (c : BitVec 8) : Prop := c = 0x00#8 ∨ 9 ≤ c.toNat

theorem reservedOp_wellFormed_iff (c : BitVec 8) : (Instr.reservedOp c).wellFormed = true ↔ ReservedOpCode c := by
  simp [Instr.wellFormed, ReservedOpCode]

theorem decodeTxn_reserved {w : BitVec 64} (h : ReservedOpCode (txnOp w)) : decodeTxn w = .reservedOp (txnOp w) := by
  have hne (k : Nat) (h1 : 1 ≤ k) (h8 : k ≤ 8) : txnOp w ≠ BitVec.ofNat 8 k := by
    intro hk
    rw [ReservedOpCode, hk] at h
    interval_cases k <;> simp at h
  simp [decodeTxn, hne 1, hne 2, hne 3, hne 4, hne 5, hne 6, hne 7, hne 8]

/-! ### Command words (R120 to R122) -/

@[simp] theorem cmdOp_append (code : BitVec 8) (en : Bool) : cmdOp (0#23 ++ BitVec.ofBool en ++ code) = code :=
  BitVec.extractLsb'_append_eq_right

@[simp] theorem cmdEn_append (code : BitVec 8) (en : Bool) : cmdEn (0#23 ++ BitVec.ofBool en ++ code) = en := by
  show BitVec.getLsbD (w := 23 + 1 + 8) (0#23 ++ BitVec.ofBool en ++ code) 8 = en
  rw [BitVec.getLsbD_append, BitVec.getLsbD_append]
  exact BitVec.getLsbD_ofBool en 0

theorem decodeCmd_setOutput {c : Word} (h : cmdOp c = 0x04#8) : decodeCmd c = .setOutput (cmdEn c) := by
  simp [decodeCmd, h]

theorem decodeCmd_reserved {c : Word} (h : 6 ≤ (cmdOp c).toNat) : decodeCmd c = .reservedCmd (cmdOp c) := by
  have hne (k : Nat) (h5 : k ≤ 5) : cmdOp c ≠ BitVec.ofNat 8 k := by
    intro hk
    rw [hk] at h
    interval_cases k <;> simp at h
  simp [decodeCmd, hne 0, hne 1, hne 2, hne 3, hne 4, hne 5]

/-- But for SET_OUTPUT, whose operand is EN, the code alone tells the command. -/
theorem decodeCmd_congr {c d : Word} (hop : cmdOp c = cmdOp d) (h : cmdOp c ≠ 0x04#8) : decodeCmd c = decodeCmd d := by
  simp only [decodeCmd, ← hop, if_neg h]

/-! ### The second decode, by size and target (R115, R116) -/

/-- A size code is the reserved one or that of a size (R114, R116). -/
theorem Size.code_cases (c : BitVec 2) : c = 3#2 ∨ ∃ n : Size, c = n.code := by
  have h : ∀ c : BitVec 2, c = 3#2 ∨ c = Size.byte.code ∨ c = Size.half.code ∨ c = Size.word.code := by decide
  obtain h | h | h | h := h c
  · exact .inl h
  · exact .inr ⟨_, h⟩
  · exact .inr ⟨_, h⟩
  · exact .inr ⟨_, h⟩

theorem decodeHwr_sz3 (a : Addr) (d : Word) : decodeHwr 3#2 a d = .hwrSz3 := rfl

theorem decodeHrd_sz3 (a : Addr) : decodeHrd 3#2 a = .hrdSz3 := rfl

theorem decodeHwr_register (r : HostReg) (d : Word) : decodeHwr Size.word.code r.offset d = Instr.ofWrite d r := by
  simp [decodeHwr, r.offset_not_inWindow]

theorem decodeHrd_register (r : HostReg) : decodeHrd Size.word.code r.offset = Instr.ofRead r := by
  simp [decodeHrd, r.offset_not_inWindow]

theorem decodeHwr_window (n : Size) (b : Fin 8) (o : BitVec 12) (d : Word) :
    decodeHwr n.code (windowAddr b o) d = Instr.ofWindowWrite n o d b := by simp [decodeHwr]

theorem decodeHrd_window (n : Size) (b : Fin 8) (o : BitVec 12) :
    decodeHrd n.code (windowAddr b o) = Instr.ofWindowRead n o b := by simp [decodeHrd]

/-- A target that no row of its own covers is neither in the window nor, for this size, a register. -/
theorem coveredTarget_eq_false_iff (n : Size) (a : Addr) :
    coveredTarget n a = false ↔ inWindow a = false ∧ (if n = .word then HostReg.ofOffset? a else none) = none := by
  cases n <;> simp [coveredTarget]

theorem decodeHwr_uncovered (n : Size) (a : Addr) (d : Word) (h : coveredTarget n a = false) :
    decodeHwr n.code a d = .hwr n a d := by
  obtain ⟨hw, hr⟩ := (coveredTarget_eq_false_iff n a).mp h
  simp [decodeHwr, hw, hr]

theorem decodeHrd_uncovered (n : Size) (a : Addr) (h : coveredTarget n a = false) :
    decodeHrd n.code a = .hrd n a := by
  obtain ⟨hw, hr⟩ := (coveredTarget_eq_false_iff n a).mp h
  simp [decodeHrd, hw, hr]

/-- What a covered target decodes to is a window read or a register read. -/
theorem decodeHrd_covered (n : Size) (a : Addr) (h : coveredTarget n a = true) :
    decodeHrd n.code a = Instr.ofWindowRead n (windowOff a) (windowBuf a) ∨
      ∃ r, decodeHrd n.code a = Instr.ofRead r := by
  cases hw : inWindow a with
  | true => exact .inl (by simp [decodeHrd, hw])
  | false =>
    simp only [coveredTarget, hw, Bool.false_or, Bool.and_eq_true, decide_eq_true_eq, Option.isSome_iff_exists] at h
    obtain ⟨hn, r, hr⟩ := h
    exact .inr ⟨r, by simp [decodeHrd, hw, hn, hr]⟩

/-! ### The words of the targets -/

theorem encode_ofWrite (d : Word) (r : HostReg) : encode (Instr.ofWrite d r) = hwrWord .word r.offset d := by
  cases r with
  | bufstat b | buftag b | bufline b => fin_cases b <;> rfl
  | _ => rfl

theorem encode_ofRead (r : HostReg) : encode (Instr.ofRead r) = hrdWord .word r.offset := by
  cases r with
  | bufstat b | buftag b | bufline b => fin_cases b <;> rfl
  | _ => rfl

theorem encode_ofWindowWrite (n : Size) (o : BitVec 12) (d : Word) (b : Fin 8) :
    encode (Instr.ofWindowWrite n o d b) = hwrWord n (windowAddr b o) d := by fin_cases b <;> rfl

theorem encode_ofWindowRead (n : Size) (o : BitVec 12) (b : Fin 8) :
    encode (Instr.ofWindowRead n o b) = hrdWord n (windowAddr b o) := by fin_cases b <;> rfl

theorem decode_hwrWord (n : Size) (a : Addr) (d : Word) : decode (hwrWord n a d) = decodeHwr n.code a d := by
  simp [hwrWord, decode, decodeTxn_hwr]

theorem decode_hrdWord (n : Size) (a : Addr) : decode (hrdWord n a) = decodeHrd n.code a := by
  simp [hrdWord, decode, decodeTxn_hrd]

/-! ### Well-formedness of what is decoded -/

theorem ofWrite_wellFormed (d : Word) (r : HostReg) : (Instr.ofWrite d r).wellFormed = true := by
  cases r with
  | bufstat b | buftag b | bufline b => fin_cases b <;> rfl
  | _ => rfl

theorem ofRead_wellFormed (r : HostReg) : (Instr.ofRead r).wellFormed = true := by
  cases r with
  | bufstat b | buftag b | bufline b => fin_cases b <;> rfl
  | _ => rfl

theorem ofWindowWrite_wellFormed (n : Size) (o : BitVec 12) (d : Word) (b : Fin 8) :
    (Instr.ofWindowWrite n o d b).wellFormed = true := by fin_cases b <;> rfl

theorem ofWindowRead_wellFormed (n : Size) (o : BitVec 12) (b : Fin 8) :
    (Instr.ofWindowRead n o b).wellFormed = true := by fin_cases b <;> rfl

theorem decodeHwr_wellFormed (sz : BitVec 2) (a : Addr) (d : Word) : (decodeHwr sz a d).wellFormed = true := by
  obtain rfl | ⟨n, rfl⟩ := Size.code_cases sz
  · rfl
  cases hc : coveredTarget n a with
  | false => simp [decodeHwr_uncovered n a d hc, Instr.wellFormed, hc]
  | true =>
    obtain h | ⟨r, h⟩ := Machine.decodeHwr_covered n a d hc
    · exact h ▸ ofWindowWrite_wellFormed ..
    · exact h ▸ ofWrite_wellFormed d r

theorem decodeHrd_wellFormed (sz : BitVec 2) (a : Addr) : (decodeHrd sz a).wellFormed = true := by
  obtain rfl | ⟨n, rfl⟩ := Size.code_cases sz
  · rfl
  cases hc : coveredTarget n a with
  | false => simp [decodeHrd_uncovered n a hc, Instr.wellFormed, hc]
  | true =>
    obtain h | ⟨r, h⟩ := decodeHrd_covered n a hc
    · exact h ▸ ofWindowRead_wellFormed ..
    · exact h ▸ ofRead_wellFormed r

theorem decodeTxn_wellFormed (w : BitVec 64) : (decodeTxn w).wellFormed = true := by
  unfold decodeTxn
  split_ifs with h1 h2 h3 h4 h5 h6 h7 h8
  · rfl
  · exact decodeHwr_wellFormed ..
  · exact decodeHrd_wellFormed ..
  iterate 5 rfl
  · refine (reservedOp_wellFormed_iff _).mpr ?_
    unfold ReservedOpCode
    bv_omega

/-! ### The obligations -/

/-- Settles O1: the fields of the encoded word read back, and the second decode of a target gives the target's row. -/
theorem decodeOfEncode : Obligations.DecodeOfEncode := by
  refine Instr.byTarget ?tick ?hwr ?hrd ?drd ?ltsvc ?sasvc ?rst ?periph ?reservedOp ?hwrSz3 ?hrdSz3 ?ofWrite ?ofRead
    ?ofWindowWrite ?ofWindowRead ?nop ?configure ?start ?stop ?setOutput ?injectLtSuppress ?reservedCmd
  case tick => exact fun _ => decodeTxn_tick (txnOp_txnWord ..)
  case ltsvc => exact fun _ => decodeTxn_ltsvc (txnOp_txnWord ..)
  case sasvc => exact fun _ => decodeTxn_sasvc (txnOp_txnWord ..)
  case rst => exact fun _ => decodeTxn_rst (txnOp_txnWord ..)
  case drd => exact fun o _ => by simp [encode, decode, decodeTxn_drd]
  case periph =>
    intro v _
    have hv : (0#31 ++ BitVec.ofBool v).getLsbD 0 = v := by cases v <;> rfl
    exact (decodeTxn_periph (txnOp_txnWord ..)).trans (by rw [txnData_txnWord, hv])
  case reservedOp =>
    intro c hw
    have hc := (reservedOp_wellFormed_iff c).mp hw
    simp [encode, decode, decodeTxn_reserved, hc]
  case hwrSz3 => exact fun _ => by simp [encode, decode, decodeTxn_hwr, decodeHwr_sz3]
  case hrdSz3 => exact fun _ => by simp [encode, decode, decodeTxn_hrd, decodeHrd_sz3]
  case hwr =>
    intro n a d hw
    exact (decode_hwrWord n a d).trans (decodeHwr_uncovered n a d (by simpa [Instr.wellFormed] using hw))
  case hrd =>
    intro n a hw
    exact (decode_hrdWord n a).trans (decodeHrd_uncovered n a (by simpa [Instr.wellFormed] using hw))
  case ofWrite => exact fun d r _ => by rw [encode_ofWrite, decode_hwrWord, decodeHwr_register]
  case ofRead => exact fun r _ => by rw [encode_ofRead, decode_hrdWord, decodeHrd_register]
  case ofWindowWrite => exact fun n o d b _ => by rw [encode_ofWindowWrite, decode_hwrWord, decodeHwr_window]
  case ofWindowRead => exact fun n o b _ => by rw [encode_ofWindowRead, decode_hrdWord, decodeHrd_window]
  case setOutput => exact fun v _ => (decodeCmd_setOutput (cmdOp_append ..)).trans (by rw [cmdEn_append])
  case reservedCmd =>
    intro c hw
    have hc : 6 ≤ c.toNat := by simpa [Instr.wellFormed] using hw
    have hop := cmdOp_append c false
    exact (decodeCmd_reserved (hop.symm ▸ hc)).trans (by rw [hop])
  all_goals exact fun _ => rfl

/-- Settles O2, for each of the two forms of a spelled operation. -/
theorem decodedIsWellFormed : Obligations.DecodedIsWellFormed
  | .txn w => decodeTxn_wellFormed w
  | .cmd c => Machine.decodeCmd_wellFormed c

/-- Settles O3: the equation of each operation code names the fields it reads. -/
theorem unusedTxnBitsAreIgnored : Obligations.UnusedTxnBitsAreIgnored := by
  refine ⟨fun w v hop => ⟨fun hsz ha hd => ?_, fun h => ?_, fun h hsz ha => ?_, fun h ha => ?_, fun h hd => ?_⟩,
    fun c d hop hen => ?_⟩
  · simp only [decodeTxn, hop, hsz, ha, hd]
  · obtain h | h | h | h := h
    · rw [decodeTxn_tick h, decodeTxn_tick (hop ▸ h)]
    · rw [decodeTxn_ltsvc h, decodeTxn_ltsvc (hop ▸ h)]
    · rw [decodeTxn_sasvc h, decodeTxn_sasvc (hop ▸ h)]
    · rw [decodeTxn_rst h, decodeTxn_rst (hop ▸ h)]
  · rw [decodeTxn_hrd h, decodeTxn_hrd (hop ▸ h), hsz, ha]
  · rw [decodeTxn_drd h, decodeTxn_drd (hop ▸ h), ha]
  · rw [decodeTxn_periph h, decodeTxn_periph (hop ▸ h), hd]
  · by_cases h : cmdOp c = 0x04#8
    · rw [decodeCmd_setOutput h, decodeCmd_setOutput (hop ▸ h), hen h]
    · exact decodeCmd_congr hop h

/-- The word of a well-formed operation decodes to it. -/
theorem decode_of_encode_eq {w : OpWord} {i : Instr} (hw : encode i = w) (hi : i.wellFormed = true) : decode w = i :=
  hw ▸ decodeOfEncode i hi

/-- Settles O4: each word is the one the encoder gives, so the round trip decodes it. -/
theorem specWordsDecode : Obligations.SpecWordsDecode := by
  unfold Obligations.SpecWordsDecode
  and_intros <;> exact decode_of_encode_eq rfl rfl

/-- Settles O5: the decoder's last branch, and the refusal that is the whole meaning of RESERVED_OP. -/
theorem reservedCodesAreRefused : Obligations.ReservedCodesAreRefused :=
  ⟨fun _ h => decodeTxn_reserved h, fun _ _ => rfl⟩

end Sys2Proof
end

section
/-! PROOF. Accesses of the reserved size, and the data words of the mode registers (30_encoding.md R116, R127;
43_front_end.md R276, R277). -/

namespace Sys2Proof.Machine

/-- Settles O51: each is its refused access, the error bit and for a read the value 0, under Dispatch. -/
theorem reservedSizeIsBadAccess : Obligations.ReservedSizeIsBadAccess := fun _ => ⟨rfl, rfl⟩

/-! ### Mode-register writes -/

/-- The mode registers (R67, R276). -/
def modeRegs : List HostReg := [.htim0, .htim1, .vtim0, .vtim1, .syncSa, .saTol]

theorem exec_ofWrite_modeReg {r : HostReg} (hr : r ∈ modeRegs) (d : Word) (s : State) :
    exec (Instr.ofWrite d r) s = .next (dispatchFill (modeWrite r d s)) := by
  rw [exec_ofWrite]
  simp only [modeRegs, List.mem_cons, List.not_mem_nil, or_false] at hr
  obtain rfl | rfl | rfl | rfl | rfl | rfl := hr <;> rfl

/-- Outside rastering a mode-register write takes its fields, and no accepted mode remains (R276). -/
theorem modeWrite_outside_raster (r : HostReg) (d : Word) (s : State) (h : s.ctl.drv ≠ .rastering) :
    modeWrite r d s = { s with mode := modeFields r d s.mode, ctl := { s.ctl with drv := .uninit } } := by
  rw [modeWrite, if_neg h]
  cases hd : s.ctl.drv with
  | rastering => exact absurd hd h
  | uninit | configured | stopped => rfl

/-- The fields of a register are in no other register (R67). -/
theorem regValue_modeFields_other (r r' : HostReg) (d : Word) (s : State) (h : r' ≠ r) :
    regValue r' { s with mode := modeFields r d s.mode } = regValue r' s := by
  cases r with
  | htim0 | htim1 | vtim0 | vtim1 | syncSa | saTol => cases r' <;> first | rfl | exact absurd rfl h
  | _ => rfl

/-! ### Data words and their fields -/

theorem ofBool_getLsbD_eq_extract (d : Word) (k : Nat) : BitVec.ofBool (d.getLsbD k) = d.extractLsb' k 1 := by
  ext i hi
  simp [show i = 0 by omega]

/-- A field of a data word, put back where it was taken from, is the data word under the field's mask. -/
theorem field_extract_eq_and (w k : Nat) (d : Word) :
    field w (d.extractLsb' k w) k = d &&& field w (BitVec.allOnes w) k := by
  apply BitVec.eq_of_getLsbD_eq
  intro i hi
  simp only [BitVec.getLsbD_and, field_getLsbD, BitVec.getLsbD_extractLsb', BitVec.getLsbD_allOnes, hi, decide_true,
    Bool.true_and]
  by_cases hk : k ≤ i
  · simp [hk, Nat.add_sub_cancel' hk, Bool.and_comm]
  · simp [hk]

/-- The two halves of a register make up its data word (R67, R277). -/
theorem halves_of_data_word (d : Word) : field 16 (halfAt 0 d) 0 ||| field 16 (halfAt 16 d) 16 = d := by
  simp only [halfAt, field_extract_eq_and, ← BitVec.and_or_distrib_left]
  exact BitVec.and_allOnes

/-- What SYNC_SA keeps of its data word (R67, R127). -/
theorem syncSa_of_data_word (d : Word) :
    bitField (d.getLsbD 0) 0 ||| bitField (d.getLsbD 1) 1 ||| field 8 (d.extractLsb' 8 8) 8 |||
      field 16 (halfAt 16 d) 16 = d &&& 0xFFFFFF03#32 := by
  simp only [halfAt, bitField, ofBool_getLsbD_eq_extract, field_extract_eq_and, ← BitVec.and_or_distrib_left]
  rfl

/-- What SA_TOL keeps of its data word (R67, R127). -/
theorem saTol_of_data_word (d : Word) : field 16 (halfAt 0 d) 0 = d &&& 0x0000FFFF#32 :=
  field_extract_eq_and 16 0 d

/-- Settles O49: the register reads its own fields of the data word, and no other register holds them. -/
theorem modeWriteReadsBack : Obligations.ModeWriteReadsBack := by
  intro d s r hr hdrv
  refine ⟨modeFields r d s.mode, ?_, ?_, fun r' _ hne => regValue_modeFields_other r r' d s hne⟩
  · rw [exec_ofWrite_modeReg hr, modeWrite_outside_raster r d s hdrv]
  · simp only [List.mem_cons, List.not_mem_nil, or_false] at hr
    obtain rfl | rfl | rfl | rfl | rfl | rfl := hr
    iterate 4 exact halves_of_data_word d
    · exact syncSa_of_data_word d
    · exact saTol_of_data_word d

end Sys2Proof.Machine
end

section
/-! PROOF. TICK (40_horizontal_fsm.md R150 to R159): what each stage does to the timers and to the transfer, and the
obligations on a tick. -/

namespace Sys2Proof.Machine

/-! ### The operation -/

/-- Outside rastering a tick is Dispatch alone (R151). -/
theorem exec_tick_outside (s : State) (h : s.ctl.drv ≠ .rastering) : exec .tick s = .next (dispatchFill s) :=
  congrArg Host.Outcome.next (if_neg h)

theorem exec_tick_rastering (s : State) (h : s.ctl.drv = .rastering) :
    exec .tick s = .next (dispatchFill (endVideo (startVideo (tickTimers s)))) :=
  congrArg Host.Outcome.next (if_pos h)

/-- Settles O26: the tick is Dispatch, which leaves these fields. -/
theorem tickOutsideRasteringOnlyDispatches : Obligations.TickOutsideRasteringOnlyDispatches := by
  intro s h
  exact ⟨exec_tick_outside s h, dispatchFill s, exec_tick_outside s h, by simp⟩

/-! ### The timers -/

theorem timerWraps_iff (s : State) : timerWraps s = true ↔ s.tmr.ltCnt.toNat + 1 = s.mode.tLine.toNat := by
  simp [timerWraps]

/-- Saturating addition as a minimum of natural numbers (00_scope.md R17). -/
theorem toNat_satAdd {n : Nat} (v : BitVec n) (k : Nat) : (satAdd n v k).toNat = min (v.toNat + k) (2 ^ n - 1) := by
  have hpos : 0 < 2 ^ n := Nat.two_pow_pos n
  rw [satAdd, BitVec.toNat_ofNat, Nat.mod_eq_of_lt]
  omega

/-- The shock-absorber firing changes `sa_pend` alone (R156). -/
theorem shockFiring_tmr (s : State) :
    (shockFiring s).tmr =
      { s.tmr with saPend := s.tmr.saPend || decide (s.tmr.ltCnt = s.mode.saPhase ∧ s.tmr.saDivCnt = 0) } := by
  unfold shockFiring
  by_cases h : s.tmr.ltCnt = s.mode.saPhase ∧ s.tmr.saDivCnt = 0
  · simp [h]
  · rw [if_neg h, decide_eq_false h, Bool.or_false]

/-- The stages of a tick that does not wrap the line timer (R152, R153, R156). -/
theorem tickTimers_of_no_wrap (s : State) (h : timerWraps s = false) :
    tickTimers s = shockFiring (countTick s) := by simp [tickTimers, h]

/-- The stages of a tick that wraps the line timer (R154, R155). -/
theorem tickTimers_of_wrap (s : State) (h : timerWraps s = true) :
    tickTimers s = shockFiring (lineFiring (countTick s)) := by simp [tickTimers, h]

/-- The firing of a wrap changes no count but the divider's (R154, R155). -/
theorem lineFiring_counts (s : State) :
    (lineFiring s).tmr.ltCnt = s.tmr.ltCnt ∧ (lineFiring s).tmr.wdCnt = s.tmr.wdCnt ∧
      (lineFiring s).tmr.saPend = s.tmr.saPend := by
  unfold lineFiring
  dsimp only
  split_ifs <;> exact ⟨rfl, rfl, rfl⟩

theorem tickTimers_wdCnt (s : State) : (tickTimers s).tmr.wdCnt = satAdd 16 s.tmr.wdCnt 1 := by
  unfold tickTimers
  split <;> simp [shockFiring_tmr, lineFiring_counts, countTick]

/-- The shock-absorber timer is pending from its firing on, which the new counts decide (R156). -/
theorem tickTimers_saPend (s : State) :
    (tickTimers s).tmr.saPend = true ↔
      s.tmr.saPend = true ∨ ((tickTimers s).tmr.ltCnt = s.mode.saPhase ∧ (tickTimers s).tmr.saDivCnt = 0) := by
  unfold tickTimers
  split <;> simp [shockFiring_tmr, lineFiring_counts, countTick]

/-- What the line-timer firing of a wrap does (R155): it is suppressed, lost, or made pending. -/
theorem lineFiring_cases (s : State) :
    (s.tmr.ltSupp = true ∧ (lineFiring s).tmr.ltSupp = false ∧ (lineFiring s).tmr.ltPend = s.tmr.ltPend ∧
      (lineFiring s).tmr.ltLost = satAdd 8 s.tmr.ltLost 1) ∨
    (s.tmr.ltSupp = false ∧ s.tmr.ltPend = true ∧ (lineFiring s).tmr.ltSupp = false ∧
      (lineFiring s).tmr.ltPend = true ∧ (lineFiring s).tmr.ltLost = satAdd 8 s.tmr.ltLost 1) ∨
    (s.tmr.ltSupp = false ∧ s.tmr.ltPend = false ∧ (lineFiring s).tmr.ltSupp = false ∧
      (lineFiring s).tmr.ltPend = true ∧ (lineFiring s).tmr.ltLost = s.tmr.ltLost) := by
  cases hsupp : s.tmr.ltSupp with
  | true => exact .inl (by simp [lineFiring, hsupp])
  | false =>
    cases hpend : s.tmr.ltPend with
    | true => exact .inr (.inl (by simp [lineFiring, hsupp, hpend]))
    | false => exact .inr (.inr (by simp [lineFiring, hsupp, hpend]))

/-- Without a wrap no line-timer firing happens (R155). -/
theorem tickTimers_no_firing (s : State) (h : timerWraps s = false) :
    (tickTimers s).tmr.ltPend = s.tmr.ltPend ∧ (tickTimers s).tmr.ltSupp = s.tmr.ltSupp ∧
      (tickTimers s).tmr.ltLost = s.tmr.ltLost := by
  rw [tickTimers_of_no_wrap s h, shockFiring_tmr]
  exact ⟨rfl, rfl, rfl⟩

/-- At a wrap the firing is the one `lineFiring` makes of the state before the tick (R155). -/
theorem tickTimers_firing (s : State) (h : timerWraps s = true) :
    (s.tmr.ltSupp = true → (tickTimers s).tmr.ltSupp = false ∧ (tickTimers s).tmr.ltPend = s.tmr.ltPend ∧
      (tickTimers s).tmr.ltLost.toNat = min (s.tmr.ltLost.toNat + 1) 0xFF) ∧
    (s.tmr.ltSupp = false → s.tmr.ltPend = true → (tickTimers s).tmr.ltSupp = false ∧
      (tickTimers s).tmr.ltPend = true ∧ (tickTimers s).tmr.ltLost.toNat = min (s.tmr.ltLost.toNat + 1) 0xFF) ∧
    (s.tmr.ltSupp = false → s.tmr.ltPend = false → (tickTimers s).tmr.ltSupp = false ∧
      (tickTimers s).tmr.ltPend = true ∧ (tickTimers s).tmr.ltLost = s.tmr.ltLost) := by
  have hsat : (satAdd 8 s.tmr.ltLost 1).toNat = min (s.tmr.ltLost.toNat + 1) 0xFF := toNat_satAdd _ 1
  have hsupp : (countTick s).tmr.ltSupp = s.tmr.ltSupp := rfl
  have hpend : (countTick s).tmr.ltPend = s.tmr.ltPend := rfl
  have hlost : (countTick s).tmr.ltLost = s.tmr.ltLost := rfl
  have hcases := lineFiring_cases (countTick s)
  rw [hsupp, hpend, hlost] at hcases
  rw [tickTimers_of_wrap s h, shockFiring_tmr]
  dsimp only
  obtain ⟨h1, h2, h3, h4⟩ | ⟨h1, h2, h3, h4, h5⟩ | ⟨h1, h2, h3, h4, h5⟩ := hcases
  · simp [h1, h2, h3, h4, hsat]
  · simp [h1, h2, h3, h4, h5, hsat]
  · simp [h1, h2, h3, h4, h5]

/-- Settles O27: the stages after the timers leave them, and each timer is read off its own rule. -/
theorem tickAdvancesTimers : Obligations.TickAdvancesTimers := by
  intro s h
  refine ⟨_, exec_tick_rastering s h, ?_⟩
  simp only [dispatchFill_tmr, endVideo_tmr, startVideo_tmr, ← timerWraps_iff, ne_eq, Bool.not_eq_true]
  refine ⟨fun hw => ?wraps, fun hw => ?counts, ?watchdog, fun hw => ?firing, tickTimers_saPend s,
    tickTimers_resyncReq s, by simp, by simp, by simp, by simp, fun b o => ?bytes⟩
  case wraps => rw [tickTimers_ltCnt, if_pos hw]
  case counts =>
    rw [tickTimers_ltCnt, tickTimers_saDivCnt, hw]
    exact ⟨rfl, rfl, tickTimers_no_firing s hw⟩
  case watchdog =>
    rw [tickTimers_wdCnt]
    exact toNat_satAdd _ 1
  case firing =>
    rw [tickTimers_saDivCnt, if_pos hw]
    exact ⟨fun hd => if_pos hd, fun hd => if_neg hd, tickTimers_firing s hw⟩
  case bytes => exact readByte_congr _ _ b o (by simp) (by simp)

/-! ### Active video -/

/-- At BP_END an armed transfer starts streaming, and does not end at the same tick (R157, R159). -/
theorem video_at_bpEnd (s : State) (hne : s.mode.bpEnd ≠ s.mode.actEnd) (hc : s.tmr.ltCnt = s.mode.bpEnd)
    (hx : s.xfer.xst = .armed) :
    endVideo (startVideo s) =
      emit (.dmaStart s.xfer.xbuf s.xfer.xlen) { s with xfer := { s.xfer with xst := .streaming } } := by
  rw [startVideo, if_pos ⟨hc, hx⟩]
  exact if_neg fun hend => hne (hc.symm.trans hend.1)

/-- At ACT_END a streaming transfer ends, and its buffer is freed (R158). -/
theorem video_at_actEnd (s : State) (hc : s.tmr.ltCnt = s.mode.actEnd) (hx : s.xfer.xst = .streaming) :
    endVideo (startVideo s) =
      { setOwn s.xfer.xbuf .free (emit (.dmaStop s.xfer.xbuf) s) with xfer := { s.xfer with xst := .idle } } := by
  rw [startVideo, if_neg (by simp [hx])]
  exact if_pos ⟨hc, hx⟩

/-- At any other tick active video neither starts nor ends (R157, R158). -/
theorem video_between (s : State) (hstart : ¬(s.tmr.ltCnt = s.mode.bpEnd ∧ s.xfer.xst = .armed))
    (hend : ¬(s.tmr.ltCnt = s.mode.actEnd ∧ s.xfer.xst = .streaming)) : endVideo (startVideo s) = s := by
  rw [startVideo, if_neg hstart]
  exact if_neg hend

/-- Settles O28: `u` is the state before Dispatch. The stages of active video act on the state the timers leave, whose
mode, transfer, buffers and events are those before the tick. -/
theorem tickRunsActiveVideo : Obligations.TickRunsActiveVideo := by
  intro s h hne
  refine ⟨_, exec_tick_rastering s h, fun hw => ?dispatch, by simp, by simp, by simp, by simp, by simp, by simp,
    by simp, by simp, by simp, ?count, ?starts, ?ends, ?between⟩
  case dispatch =>
    obtain hp | hb := hw
    · exact dispatchFill_of_no_request _ (by simpa using hp)
    · exact dispatchFill_of_busy _ (by simpa using hb)
  case count => simp [tickTimers_ltCnt, timerWraps_iff]
  all_goals
    rw [endVideo_tmr, startVideo_tmr]
    intro hc hx
  case starts =>
    rw [video_at_bpEnd (tickTimers s) (by simpa using hne) (by simpa using hc) (by simpa using hx)]
    simp
  case ends =>
    rw [video_at_actEnd (tickTimers s) (by simpa using hc) (by simpa using hx)]
    have hbuf (b : Fin 8) := setOwn_buf s.xfer.xbuf b .free (emit (.dmaStop s.xfer.xbuf) (tickTimers s))
    simp only [emit_buf, tickTimers_buf] at hbuf
    simp only [tickTimers_xfer]
    exact ⟨trivial, by simp, (hbuf _).trans (if_pos rfl), fun b hb => (hbuf b).trans (if_neg hb)⟩
  case between =>
    rw [video_between (tickTimers s) (by simpa using hc) (by simpa using hx)]
    simp

end Sys2Proof.Machine
end

section
/-! PROOF. LTSVC and the line state (40_horizontal_fsm.md R160 to R176): the advance over lines in closed form, what a
granted service leaves in each field, and the obligations on the line, the misses and the timers. -/

namespace Sys2Proof.Machine

/-! ### The operation -/

/-- A granted line service completes with its effect and Dispatch (R160, R212). -/
theorem exec_ltsvc_granted (s : State) (hr : s.ctl.drv = .rastering) (hp : s.tmr.ltPend = true) :
    exec .ltsvc s = .next (dispatchFill (servedLine s)) :=
  (execLtsvc_next s _).mpr ⟨by simp [lineServiceEnabled, hr, hp], lineService_eq s⟩

/-! ### The advance over lines (R161, R162, R165) -/

/-- The line after `line`, as a remainder (R165). -/
theorem toNat_nextLine (m : Mode) (line : Count) (h : line.toNat < m.lTotal.toNat) :
    (nextLine m line).toNat = (line.toNat + 1) % m.lTotal.toNat := by
  have hlimit := m.lTotal.isLt
  unfold nextLine
  split
  · rename_i hwrap
    simp [hwrap]
  · rw [toNat_add_one line (by omega), Nat.mod_eq_of_lt (by omega)]

/-- The wraps of one line and of the `k` lines after it are the wraps of all of them. -/
theorem wraps_succ (l k n : Nat) : (l + 1) / n + ((l + 1) % n + k) / n = (l + (k + 1)) / n := by
  rcases Nat.eq_zero_or_pos n with rfl | hn
  · simp
  · have hdiv := Nat.add_mul_div_left ((l + 1) % n + k) ((l + 1) / n) hn
    have hmod := Nat.mod_add_div (l + 1) n
    rw [show (l + 1) % n + k + n * ((l + 1) / n) = l + (k + 1) by omega] at hdiv
    omega

/-- One line wraps the frame exactly when it is the last of the frame (R165). -/
theorem wraps_one (l n : Nat) (h : l < n) : (l + 1) / n = if l + 1 = n then 1 else 0 := by
  split
  · rename_i hwrap
    rw [hwrap, Nat.div_self (by omega)]
  · exact Nat.div_eq_of_lt (by omega)

/-- One line advanced over (R162). -/
theorem advanceLine_line (m : Mode) (last : Bool) (p : Progress) (h : p.line.toNat < m.lTotal.toNat) :
    (advanceLine m last p).line.toNat = (p.line.toNat + 1) % m.lTotal.toNat := toNat_nextLine m p.line h

theorem advanceLine_wraps (m : Mode) (last : Bool) (p : Progress) (h : p.line.toNat < m.lTotal.toNat) :
    (advanceLine m last p).wraps = p.wraps + (p.line.toNat + 1) / m.lTotal.toNat := by
  rw [wraps_one _ _ h]
  by_cases hw : p.line.toNat + 1 = m.lTotal.toNat <;> simp [advanceLine, hw]

theorem advanceLine_frame (m : Mode) (last : Bool) (p : Progress) (h : p.line.toNat < m.lTotal.toNat) :
    (advanceLine m last p).frame = p.frame + BitVec.ofNat 32 ((p.line.toNat + 1) / m.lTotal.toNat) := by
  rw [wraps_one _ _ h]
  by_cases hw : p.line.toNat + 1 = m.lTotal.toNat <;> simp [advanceLine, hw]

theorem advanceLine_skippedVis (m : Mode) (p : Progress) (h : p.line.toNat < m.lTotal.toNat) :
    (advanceLine m false p).skippedVis =
      p.skippedVis + if vb m ≤ (p.line.toNat + 1) % m.lTotal.toNat then 1 else 0 := by
  rw [← toNat_nextLine m p.line h]
  by_cases hv : vb m ≤ (nextLine m p.line).toNat <;> simp [advanceLine, hv]

theorem advanceLines_seq (m : Mode) (k : Nat) (p : Progress) :
    (advanceLines m k p).seq = p.seq + BitVec.ofNat 32 k := by
  induction k generalizing p with
  | zero => simp [advanceLines]
  | succ k ih =>
    rw [advanceLines, ih, Nat.add_comm k, BitVec.ofNat_add, ← BitVec.add_assoc]
    rfl

theorem advanceLines_line (m : Mode) (k : Nat) (p : Progress) (h : p.line.toNat < m.lTotal.toNat) :
    (advanceLines m k p).line.toNat = (p.line.toNat + k) % m.lTotal.toNat := by
  induction k generalizing p with
  | zero => exact (Nat.mod_eq_of_lt h).symm
  | succ k ih =>
    rw [advanceLines, ih _ (nextLine_lt m p.line h), advanceLine_line m _ p h, Nat.mod_add_mod, Nat.add_assoc,
      Nat.add_comm 1]

theorem advanceLines_wraps (m : Mode) (k : Nat) (p : Progress) (h : p.line.toNat < m.lTotal.toNat) :
    (advanceLines m k p).wraps = p.wraps + (p.line.toNat + k) / m.lTotal.toNat := by
  induction k generalizing p with
  | zero => simp [advanceLines, Nat.div_eq_of_lt h]
  | succ k ih =>
    rw [advanceLines, ih _ (nextLine_lt m p.line h), advanceLine_wraps m _ p h, advanceLine_line m _ p h, Nat.add_assoc,
      wraps_succ]

theorem advanceLines_frame (m : Mode) (k : Nat) (p : Progress) (h : p.line.toNat < m.lTotal.toNat) :
    (advanceLines m k p).frame = p.frame + BitVec.ofNat 32 ((p.line.toNat + k) / m.lTotal.toNat) := by
  induction k generalizing p with
  | zero => simp [advanceLines, Nat.div_eq_of_lt h]
  | succ k ih =>
    rw [advanceLines, ih _ (nextLine_lt m p.line h), advanceLine_frame m _ p h, advanceLine_line m _ p h,
      BitVec.add_assoc, ← BitVec.ofNat_add, wraps_succ]

/-- How many of the `n` lines after `line` are visible (R162, R173). -/
def visibleAfter (m : Mode) (line n : Nat) : Nat :=
  ((List.range n).filter fun j => vb m ≤ (line + 1 + j) % m.lTotal.toNat).length

theorem visibleAfter_succ (m : Mode) (line n : Nat) :
    visibleAfter m line (n + 1) =
      (if vb m ≤ (line + 1) % m.lTotal.toNat then 1 else 0) + visibleAfter m ((line + 1) % m.lTotal.toNat) n := by
  have hshift (j : Nat) : ((line + 1) % m.lTotal.toNat + 1 + j) % m.lTotal.toNat =
      (line + 1 + (j + 1)) % m.lTotal.toNat := by
    rw [Nat.add_assoc, Nat.mod_add_mod, Nat.add_comm 1 j]
  by_cases hv : vb m ≤ (line + 1) % m.lTotal.toNat <;>
    simp [visibleAfter, List.range_succ_eq_map, List.filter_map, Function.comp_def, hshift, hv, Nat.add_comm 1]

/-- The lines skipped are all but the last of the lines advanced over (R162). -/
theorem advanceLines_skippedVis (m : Mode) (n : Nat) (p : Progress) (h : p.line.toNat < m.lTotal.toNat) :
    (advanceLines m (n + 1) p).skippedVis = p.skippedVis + visibleAfter m p.line.toNat n := by
  induction n generalizing p with
  | zero => simp [advanceLines, advanceLine, visibleAfter]
  | succ n ih =>
    rw [advanceLines, ih _ (nextLine_lt m p.line h), beq_false_of_ne n.succ_ne_zero, advanceLine_skippedVis m p h,
      advanceLine_line m _ p h, visibleAfter_succ, Nat.add_assoc]

/-! ### What the service leaves in the line state -/

theorem servedLine_seq (s : State) : (servedLine s).ln.seq = (serviceProgress s).seq := by
  simp [servedLine, accountMiss, enterLine, moveLine]

theorem servedLine_frame (s : State) : (servedLine s).ln.frame = (serviceProgress s).frame := by
  simp [servedLine, accountMiss, enterLine, moveLine]

theorem servedLine_resyncCnt (s : State) : (servedLine s).ln.resyncCnt = s.ln.resyncCnt := by
  simp [servedLine, accountMiss, enterLine, moveLine]

theorem servedLine_miss (s : State) : (servedLine s).ln.miss =
    (lineMissed (enterLine s) || decide (0 < (serviceProgress s).skippedVis) || s.tmr.resyncReq) := by
  simp [servedLine, accountMiss]

theorem servedLine_missCnt (s : State) : (servedLine s).ln.missCnt =
    satAdd 16 s.ln.missCnt ((serviceProgress s).skippedVis + (lineMissed (enterLine s)).toNat) := by
  simp [servedLine, accountMiss, enterLine, moveLine]

theorem servedLine_err (s : State) : (servedLine s).err = s.err := by simp [servedLine]

/-! ### The events of a service -/

theorem signalFrame_events (p : Progress) (s : State) :
    (signalFrame p s).events = s.events ++ if 0 < p.wraps then [.frameIrq p.frame] else [] := by
  unfold signalFrame
  split <;> simp

/-- The events of the stages of a service: the frame signal, then what arming the line emits. -/
theorem servedLine_events (s : State) : (servedLine s).events = (armLine (enterLine s)).events := by simp [servedLine]

theorem enterLine_events (s : State) :
    (enterLine s).events =
      s.events ++ if 0 < (serviceProgress s).wraps then [.frameIrq (serviceProgress s).frame] else [] :=
  signalFrame_events _ s

/-- Arming a line signals no frame. -/
theorem armLine_frames (s : State) : (armLine s).events.filterMap frameOf = s.events.filterMap frameOf := by
  obtain ⟨-, he⟩ | ⟨r, -, ⟨-, -, -, he⟩ | ⟨-, he⟩⟩ := armLine_cases s <;> rw [he] <;> simp [frameOf]

/-- Dispatch signals no frame. -/
theorem dispatchFill_frames (s : State) : (dispatchFill s).events.filterMap frameOf = s.events.filterMap frameOf := by
  obtain he | ⟨b, -, -, -, -, he⟩ := dispatchFill_cases s <;> rw [he]
  simp [frameOf]

/-- Settles O30: the advance in closed form, and of the events of a service only `signalFrame`'s is a frame's. -/
theorem lineServiceAdvancesLines : Obligations.LineServiceAdvancesLines := by
  intro s hr hp hline
  refine ⟨_, exec_ltsvc_granted s hr hp, fun k hk => ?_⟩
  have hprogress : serviceProgress s = advanceLines s.mode k ⟨s.ln.line, s.ln.seq, s.ln.frame, 0, 0⟩ := by
    rw [hk]
    rfl
  have hwraps := advanceLines_wraps s.mode k ⟨s.ln.line, s.ln.seq, s.ln.frame, 0, 0⟩ hline
  simp only [dispatchFill_ln, servedLine_seq, servedLine_line, servedLine_frame, hprogress]
  refine ⟨advanceLines_seq _ _ _, advanceLines_line _ _ _ hline, advanceLines_frame _ _ _ hline, ?_⟩
  rw [dispatchFill_frames, servedLine_events, armLine_frames, enterLine_events, hprogress, hwraps, Nat.zero_add]
  have hpos : 0 < (s.ln.line.toNat + k) / s.mode.lTotal.toNat ↔ s.mode.lTotal.toNat ≤ s.ln.line.toNat + k :=
    Nat.div_pos_iff.trans (and_iff_right (by omega))
  simp only [hpos]
  split_ifs <;> simp [frameOf]

/-! ### Missed lines -/

/-- Withdrawing stale work keeps the READY buffer of the line (R168). -/
theorem withdrawBuf_of_ready (seq : BitVec 32) (x : Buf) (hr : x.own = .ready) (ht : x.tag = seq) :
    withdrawBuf seq x = x := by simp [withdrawBuf, hr, ht]

/-- Withdrawing stale work makes no buffer READY (R168). -/
theorem withdrawBuf_ready_iff (seq : BitVec 32) (x : Buf) :
    (withdrawBuf seq x).own = .ready ∧ (withdrawBuf seq x).tag = seq ↔ x.own = .ready ∧ x.tag = seq := by
  constructor
  · intro ⟨hr, ht⟩
    have hx := (withdrawn_withdrawBuf seq x).ready hr
    refine ⟨hx, ?_⟩
    by_contra hne
    simp [withdrawBuf, hx, hne] at hr
  · intro ⟨hr, ht⟩
    rw [withdrawBuf_of_ready seq x hr ht]
    exact ⟨hr, ht⟩

theorem enterLine_seq (s : State) : (enterLine s).ln.seq = (serviceProgress s).seq := rfl

theorem enterLine_region (s : State) : (enterLine s).ln.region = regionOf s.mode (serviceProgress s).line := by
  simp [enterLine, moveLine]

/-- The new line has no READY buffer exactly when the state before the service had none of its number (R168, R170). -/
theorem readyForLine_enterLine_none (s : State) :
    readyForLine (enterLine s) = none ↔ ∀ b : Fin 8, s.hasBuf b = true →
      ¬((s.buf b).own = .ready ∧ (s.buf b).tag = (serviceProgress s).seq) := by
  rw [readyForLine, firstBuf_none]
  refine forall_congr' fun b => ?_
  rw [enterLine_hasBuf]
  refine imp_congr_right fun hb => ?_
  rw [enterLine_buf, if_pos hb, enterLine_seq, ← withdrawBuf_ready_iff]
  simp

/-- When the new line is missed, said of the state before the service (R170, R171). -/
theorem lineMissed_enterLine_iff (s : State) :
    lineMissed (enterLine s) = true ↔ regionOf s.mode (serviceProgress s).line = .visible ∧
      ((∀ b : Fin 8, s.hasBuf b = true → ¬((s.buf b).own = .ready ∧ (s.buf b).tag = (serviceProgress s).seq)) ∨
        s.mode.bpEnd.toNat ≤ s.tmr.ltCnt.toNat) := by
  rw [← readyForLine_enterLine_none, ← enterLine_region, lineMissed]
  cases readyForLine (enterLine s) <;> simp

/-- The visible lines a service skips (R161, R162). -/
theorem serviceProgress_skippedVis (s : State) (h : s.ln.line.toNat < s.mode.lTotal.toNat) :
    (serviceProgress s).skippedVis =
      visibleAfter s.mode s.ln.line.toNat (if s.tmr.resyncReq then s.tmr.ltLost.toNat else 0) := by
  rw [serviceProgress, advanceCount, Nat.add_comm 1, advanceLines_skippedVis s.mode _ _ h]
  exact Nat.zero_add _

/-- Settles O31: `skipped` and `missed` are the numbers that `accountMiss` is given. -/
theorem lineServiceAccountsMisses : Obligations.LineServiceAccountsMisses := by
  intro s hr hp hline _
  refine ⟨_, exec_ltsvc_granted s hr hp, by rw [dispatchFill_ln, servedLine_resyncCnt], ?_⟩
  intro skipped missed hskipped hmissed hle
  have hskip : (serviceProgress s).skippedVis = skipped := by
    rw [hskipped]
    exact serviceProgress_skippedVis s hline
  rw [dispatchFill_ln, servedLine_seq, servedLine_region, ← lineMissed_enterLine_iff] at hmissed
  have hmiss : (lineMissed (enterLine s)).toNat = missed := by
    cases hl : lineMissed (enterLine s) <;> simp [hl] at hmissed ⊢ <;> omega
  rw [dispatchFill_ln, servedLine_miss, servedLine_missCnt, hskip, hmiss, toNat_satAdd, Nat.add_assoc, hmissed]
  simp [or_assoc]

/-! ### Region, engine and timers -/

theorem regionOf_visible_iff (m : Mode) (line : Count) : regionOf m line = .visible ↔ vb m ≤ line.toNat := by
  unfold regionOf
  split_ifs <;> simp_all

theorem regionOf_vsync_iff (m : Mode) (line : Count) :
    regionOf m line = .vsync ↔
      line.toNat < vb m ∧ m.vsStart.toNat ≤ line.toNat ∧ line.toNat < m.vsEnd.toNat := by
  unfold regionOf
  split_ifs <;> simp_all

/-- While rastering `vsync_o` has the polarity of VS_POL exactly in the vertical-sync region (10_state.md R63). -/
theorem vsyncO_eq_polarity_iff (s : State) (hr : s.ctl.drv = .rastering) :
    vsyncO s = s.mode.vsPol ↔ s.ln.region = .vsync := by
  by_cases h : s.ln.region = .vsync <;> simp [vsyncO, hr, h]

/-- Settles O32: the fields a service leaves, each by its own equation. -/
theorem lineServiceSettles : Obligations.LineServiceSettles := by
  intro s hr hp _
  have hctl := servedLine_ctl s
  refine ⟨_, exec_ltsvc_granted s hr hp, ?visible, ?vsync, ?polarity, ?active, ?blank, ?timers, ?drv, ?outEn, ?cfgErr,
    ?periph, by simp, by simp [servedLine_err], fun b o => readByte_congr _ _ b o (by simp) (by simp)⟩
  case visible =>
    rw [dispatchFill_ln, servedLine_region, servedLine_line]
    exact regionOf_visible_iff _ _
  case vsync =>
    rw [dispatchFill_ln, servedLine_region, servedLine_line]
    exact regionOf_vsync_iff _ _
  case polarity =>
    have hpol := vsyncO_eq_polarity_iff (dispatchFill (servedLine s)) (by rw [dispatchFill_ctl, hctl, hr])
    simpa using hpol
  case active =>
    rw [dispatchFill_ln, dispatchFill_ctl, servedLine_hsm]
    exact fun h => if_pos h
  case blank =>
    rw [dispatchFill_ln, dispatchFill_ctl, servedLine_hsm]
    exact fun h => if_neg h
  case timers => rw [dispatchFill_tmr, servedLine_tmr]
  all_goals rw [dispatchFill_ctl, hctl]

end Sys2Proof.Machine
end

section
/-! PROOF. LTSVC, the buffers and the handshake (40_horizontal_fsm.md R168 to R172): the buffer of the line is armed,
stale work is withdrawn, the next line is requested, and Dispatch serves the request (42_buffer_controller.md R232). -/

namespace Sys2Proof.Machine

/-! ### Dispatch, buffer by buffer -/

/-- What Dispatch does to one buffer: nothing, or it hands the FREE buffer the waiting request (R232). -/
theorem dispatchFill_buf_cases (s : State) (b : Fin 8) :
    (dispatchFill s).buf b = s.buf b ∨
      (s.rm.pend = true ∧ (s.buf b).own = .free ∧ dispatchFill s = dispatchTo b s) := by
  obtain he | ⟨c, hpend, -, -, hfree, he⟩ := dispatchFill_cases s
  · exact .inl (by rw [he])
  · by_cases hb : b = c
    · exact .inr ⟨hpend, hb ▸ hfree, hb ▸ he⟩
    · exact .inl (by rw [he, dispatchTo_buf, if_neg hb])

theorem dispatchFill_buf_of_not_free (s : State) (b : Fin 8) (h : (s.buf b).own ≠ .free) :
    (dispatchFill s).buf b = s.buf b :=
  (dispatchFill_buf_cases s b).resolve_right fun hd => h hd.2.1

/-- Dispatch appends at most a request to the events (R232). -/
theorem dispatchFill_events (s : State) :
    ∃ evs, (dispatchFill s).events = s.events ++ evs ∧ ∀ e ∈ evs, ∃ b vis, e = .rmReq b vis := by
  obtain he | ⟨b, -, -, -, -, he⟩ := dispatchFill_cases s
  · exact ⟨[], by simp [he], nofun⟩
  · exact ⟨[.rmReq b s.rm.pendLine], by simp [he], by simp⟩

/-! ### The buffers of a service -/

/-- Withdrawing changes at most the owner of a buffer that is not FILLING (R168). -/
theorem withdrawBuf_of_not_filling (seq : BitVec 32) (x : Buf) (h : x.own ≠ .filling) :
    withdrawBuf seq x = { x with own := (withdrawBuf seq x).own } := by
  unfold withdrawBuf
  split
  · exact absurd ‹_› h
  · split <;> rfl
  · rfl
  · rfl

/-- Withdrawing would leave a slot beyond NBUF as it is, which is FREE, so one rule says what becomes of every slot. -/
theorem enterLine_buf_of_inv {s : State} (h : BufferInv s) (b : Fin 8) :
    (enterLine s).buf b = withdrawBuf (serviceProgress s).seq (s.buf b) := by
  rw [enterLine_buf, enterLine_seq]
  split_ifs with hb
  · rfl
  · rw [h.params.2 b (Bool.eq_false_iff.mpr hb)]
    rfl

/-- Arming changes at most the owner of a buffer, and only of a READY one (R169 to R171). -/
theorem armLine_buf (s : State) (b : Fin 8) :
    (armLine s).buf b = s.buf b ∨
      ((s.buf b).own = .ready ∧ ∃ o, (armLine s).buf b = { s.buf b with own := o }) := by
  obtain ⟨-, he⟩ | ⟨r, hr, harm⟩ := armLine_cases s
  · exact .inl (by rw [he])
  · have hset : ∃ o, ∀ c, (armLine s).buf c = (setOwn r o s).buf c := by
      obtain ⟨-, -, -, he⟩ | ⟨-, he⟩ := harm <;> rw [he]
      · exact ⟨.xfer, fun c => rfl⟩
      · exact ⟨.free, fun c => rfl⟩
    obtain ⟨o, hset⟩ := hset
    obtain ⟨-, hready, -⟩ := readyForLine_some s r hr
    by_cases hb : b = r
    · subst hb
      exact .inr ⟨hready, o, by rw [hset, setOwn_buf, if_pos rfl]⟩
    · exact .inl (by rw [hset, setOwn_buf, if_neg hb])

theorem armLine_buf_of_not_ready (s : State) (b : Fin 8) (h : (s.buf b).own ≠ .ready) :
    (armLine s).buf b = s.buf b :=
  (armLine_buf s b).resolve_right fun ha => h ha.1

theorem servedLine_buf (s : State) (b : Fin 8) : (servedLine s).buf b = (armLine (enterLine s)).buf b :=
  buf_congr _ _ (servedLine_bufs s) b

/-- A fill in service goes on and is marked discarded (R168). -/
theorem servedLine_buf_of_filling {s : State} (h : BufferInv s) (b : Fin 8) (hf : (s.buf b).own = .filling) :
    (servedLine s).buf b = { s.buf b with discard := true } := by
  have henter : (enterLine s).buf b = { s.buf b with discard := true } := by
    simp [enterLine_buf_of_inv h, withdrawBuf, hf]
  rw [servedLine_buf, armLine_buf_of_not_ready _ _ (by simp [henter, hf]), henter]

/-- A READY buffer of another line is freed (R168). -/
theorem servedLine_buf_of_stale {s : State} (h : BufferInv s) (b : Fin 8) (hr : (s.buf b).own = .ready)
    (ht : (s.buf b).tag ≠ (serviceProgress s).seq) :
    (servedLine s).buf b = { s.buf b with own := .free } := by
  have henter : (enterLine s).buf b = { s.buf b with own := .free } := by
    simp [enterLine_buf_of_inv h, withdrawBuf, hr, ht]
  rw [servedLine_buf, armLine_buf_of_not_ready _ _ (by simp [henter]), henter]

/-- Of a buffer that is not FILLING a service changes at most the owner, before Dispatch. -/
theorem servedLine_buf_of_not_filling {s : State} (h : BufferInv s) (b : Fin 8) (hf : (s.buf b).own ≠ .filling) :
    ∃ o, (servedLine s).buf b = { s.buf b with own := o } := by
  have henter := withdrawBuf_of_not_filling (serviceProgress s).seq _ hf
  rw [← enterLine_buf_of_inv h] at henter
  rw [servedLine_buf]
  obtain ha | ⟨-, o, ha⟩ := armLine_buf (enterLine s) b <;> rw [ha, henter]
  · exact ⟨_, rfl⟩
  · exact ⟨o, rfl⟩

/-- Before Dispatch a service keeps the range of every buffer, and every field but the owner of one that is not FILLING
then. -/
theorem servedLine_buf_frame {s : State} (h : BufferInv s) (b : Fin 8) :
    ((servedLine s).buf b).vrange = (s.buf b).vrange ∧
      (((servedLine s).buf b).own ≠ .filling →
        (servedLine s).buf b = { s.buf b with own := ((servedLine s).buf b).own }) := by
  by_cases hf : (s.buf b).own = .filling
  · rw [servedLine_buf_of_filling h b hf]
    exact ⟨rfl, fun hn => absurd hf hn⟩
  · obtain ⟨o, ho⟩ := servedLine_buf_of_not_filling h b hf
    rw [ho]
    exact ⟨rfl, fun _ => rfl⟩

/-- Before Dispatch no buffer is READY (R168 to R171). -/
theorem servedLine_not_ready {s : State} (h : BufferInv s) (b : Fin 8) :
    ((servedLine s).buf b).own ≠ .ready := by
  rw [servedLine_buf]
  exact ((staleWithdrawn_enterLine h).armLine h.enterLine b).1

/-! ### The request for the next line (R172) -/

theorem enterLine_line (s : State) : (enterLine s).ln.line = (serviceProgress s).line := rfl

/-- The service drops the waiting request before it may make the next one (R168). -/
theorem enterLine_rm (s : State) : (enterLine s).rm = { s.rm with pend := false } := by
  simp [enterLine, withdrawStale]

theorem requestNext_of_visible (s : State) (h : vb s.mode ≤ (nextLine s.mode s.ln.line).toNat) :
    (requestNext s).rm = { s.rm with
      pend := true
      pendSeq := s.ln.seq + 1
      pendLine := BitVec.ofNat 16 ((nextLine s.mode s.ln.line).toNat - vb s.mode) } :=
  congrArg State.rm (if_pos h)

theorem requestNext_of_blank (s : State) (h : ¬vb s.mode ≤ (nextLine s.mode s.ln.line).toNat) : requestNext s = s :=
  if_neg h

/-- The handshake after a service, before Dispatch, when the next line is visible (R172). -/
theorem servedLine_rm_visible (s : State) (h : vb s.mode ≤ (nextLine s.mode (serviceProgress s).line).toNat) :
    (servedLine s).rm = { s.rm with
      pend := true
      pendSeq := (serviceProgress s).seq + 1
      pendLine := BitVec.ofNat 16 ((nextLine s.mode (serviceProgress s).line).toNat - vb s.mode) } := by
  rw [servedLine_rm, requestNext_of_visible _ (by simpa [enterLine_line] using h)]
  simp [enterLine_line, enterLine_seq, enterLine_rm]

/-- The handshake after a service, before Dispatch, when the next line is blank (R168, R172). -/
theorem servedLine_rm_blank (s : State) (h : ¬vb s.mode ≤ (nextLine s.mode (serviceProgress s).line).toNat) :
    (servedLine s).rm = { s.rm with pend := false } := by
  rw [servedLine_rm, requestNext_of_blank _ (by simpa [enterLine_line] using h), armLine_rm, enterLine_rm]

/-- A request that waits after a service is the service's own (R172). -/
theorem servedLine_request (s : State) (h : (servedLine s).rm.pend = true) :
    (servedLine s).rm.pendSeq = (serviceProgress s).seq + 1 := by
  by_cases hv : vb s.mode ≤ (nextLine s.mode (serviceProgress s).line).toNat
  · rw [servedLine_rm_visible s hv]
  · simp [servedLine_rm_blank s hv] at h

/-- Settles O34: each buffer before Dispatch, and then what Dispatch may do to a FREE one. -/
theorem lineServiceWithdrawsStaleWork : Obligations.LineServiceWithdrawsStaleWork := by
  intro s hs hr hp
  have hb := hs.bufferInv
  refine ⟨_, exec_ltsvc_granted s hr hp, fun b => ⟨fun hf => ?filling, fun hready htag => ?stale, ?_⟩⟩
  case filling =>
    have hserved := servedLine_buf_of_filling hb b hf
    rw [dispatchFill_buf_of_not_free _ _ (by simp [hserved, hf]), hserved]
  case stale =>
    rw [dispatchFill_ln, servedLine_seq] at htag ⊢
    obtain hd | ⟨hpend, -, hd⟩ := dispatchFill_buf_cases (servedLine s) b
    · exact .inl (hd.trans (servedLine_buf_of_stale hb b hready htag))
    · right
      rw [hd, dispatchTo_buf, if_pos rfl]
      exact ⟨rfl, servedLine_request s hpend, rfl, rfl⟩
  obtain ⟨hrange, hown⟩ := servedLine_buf_frame hb b
  obtain hd | ⟨-, -, hd⟩ := dispatchFill_buf_cases (servedLine s) b
  · rw [hd]
    exact ⟨servedLine_not_ready hb b, hrange, hown⟩
  · rw [hd, dispatchTo_buf, if_pos rfl]
    exact ⟨nofun, hrange, fun hn => absurd rfl hn⟩

/-- Settles O35: the request of `servedLine`, which Dispatch serves or leaves waiting for cause. -/
theorem lineServiceRequestsNextLine : Obligations.LineServiceRequestsNextLine := by
  intro s hs hr hp
  obtain ⟨-, hline, -, -⟩ := hs.raster hr
  refine ⟨_, exec_ltsvc_granted s hr hp, fun nxt hnxt => ?_⟩
  rw [dispatchFill_ln, servedLine_line, ← toNat_nextLine _ _ (serviceProgress_line_lt s hline)] at hnxt
  subst hnxt
  refine ⟨fun hv => ?visible, fun hblank => ?blank⟩
  case blank =>
    have hrm := servedLine_rm_blank s (not_le.mpr hblank)
    rw [dispatchFill_of_no_request _ (by rw [hrm]), hrm]
  case visible =>
    have hrm := servedLine_rm_visible s hv
    have hwaits := waitingForCause_dispatchFill (servedLine s)
    rw [dispatchFill_ln, servedLine_seq]
    obtain hd | ⟨b, -, hbusy, -, -, hd⟩ := dispatchFill_cases (servedLine s)
    · rw [hd] at hwaits ⊢
      have hcause := hwaits (by rw [hrm])
      rw [hrm] at hcause ⊢
      refine ⟨rfl, rfl, .inl ⟨rfl, rfl, rfl, rfl, hcause.imp id fun hfree b hb => hfree b ?_⟩⟩
      rwa [hasBuf_congr _ s (servedLine_params s)]
    · rw [hd, dispatchTo_rm, dispatchTo_buf, if_pos rfl, dispatchTo_events]
      rw [hrm] at hbusy ⊢
      exact ⟨rfl, rfl, .inr ⟨rfl, hbusy, rfl, rfl, rfl, rfl, rfl, rfl, List.getLast?_concat⟩⟩

/-! ### Arming (R169 to R171) -/

/-- The buffer the service finds for the new line was READY with its number before the service. -/
theorem readyForLine_enterLine_some {s : State} (h : BufferInv s) (b : Fin 8)
    (hf : readyForLine (enterLine s) = some b) :
    (s.buf b).own = .ready ∧ (s.buf b).tag = (serviceProgress s).seq := by
  obtain ⟨-, hready, htag⟩ := readyForLine_some _ _ hf
  rw [enterLine_seq] at htag
  rw [enterLine_buf_of_inv h] at hready htag
  exact (withdrawBuf_ready_iff _ _).mp ⟨hready, htag⟩

/-- The READY buffer of the new line is the one the service finds: reachable states have at most one (R65 item 4). -/
theorem readyForLine_enterLine {s : State} (h : BufferInv s) (b : Fin 8) (hr : (s.buf b).own = .ready)
    (ht : (s.buf b).tag = (serviceProgress s).seq) : readyForLine (enterLine s) = some b := by
  cases hf : readyForLine (enterLine s) with
  | none => exact absurd ⟨hr, ht⟩ ((readyForLine_enterLine_none s).mp hf b (h.hasBuf b (by simp [hr])))
  | some c =>
    obtain ⟨hc, -⟩ := readyForLine_enterLine_some h c hf
    rw [h.oneReady b c hr hc]

/-- A line in time with a buffer and the output enabled is armed (R169). -/
theorem armLine_in_time (s : State) (r : Fin 8) (hr : readyForLine s = some r)
    (hc : s.ln.region = .visible ∧ s.tmr.ltCnt.toNat < s.mode.bpEnd.toNat ∧ s.ctl.outEn = true) :
    ((armLine s).buf r).own = .xfer ∧ (armLine s).xfer = ⟨.armed, r, (s.buf r).vrange⟩ ∧
      (armLine s).events = s.events ++ [.dmaArm r (s.buf r).vrange] := by
  have he : armLine s = emit (.dmaArm r (s.buf r).vrange)
      { setOwn r .xfer s with xfer := { xst := .armed, xbuf := r, xlen := (s.buf r).vrange } } := by
    simp [armLine, hr, hc]
  have hbuf : (armLine s).buf r = (setOwn r .xfer s).buf r := by
    rw [he]
    rfl
  rw [hbuf, setOwn_buf, if_pos rfl, he]
  exact ⟨rfl, rfl, rfl⟩

/-- A line that is blank, late, without buffer or without output enabled arms nothing (R170, R171). -/
theorem armLine_unarmed (s : State)
    (h : ∀ r, readyForLine s = some r →
      ¬(s.ln.region = .visible ∧ s.tmr.ltCnt.toNat < s.mode.bpEnd.toNat ∧ s.ctl.outEn = true)) :
    (armLine s).xfer = s.xfer ∧ (armLine s).events = s.events := by
  obtain ⟨-, he⟩ | ⟨r, hr, ⟨hv, ht, ho, -⟩ | ⟨-, he⟩⟩ := armLine_cases s
  · rw [he]
    exact ⟨rfl, rfl⟩
  · exact absurd ⟨hv, ht, ho⟩ (h r hr)
  · rw [he]
    exact ⟨rfl, rfl⟩

/-- Entering the line emits at most the frame signal (R165). -/
theorem enterLine_events_no_arm (s : State) :
    ∃ evs, (enterLine s).events = s.events ++ evs ∧ ∀ b n, Event.dmaArm b n ∉ evs := by
  refine ⟨_, enterLine_events s, fun b n => ?_⟩
  split_ifs <;> simp

/-- Settles O33: the arming of the line's READY buffer, or none; Dispatch keeps both. The invariant after the service
says that with the transfer idle no buffer is XFER. -/
theorem lineServiceArmsOrLeavesBlank : Obligations.LineServiceArmsOrLeavesBlank := by
  intro s hs hr hp
  have hb := hs.bufferInv
  have hnext := exec_ltsvc_granted s hr hp
  obtain ⟨entered, hentered, hnoarm⟩ := enterLine_events_no_arm s
  obtain ⟨dispatched, hdispatched, hreq⟩ := dispatchFill_events (servedLine s)
  rw [servedLine_events] at hdispatched
  refine ⟨_, hnext, ?_⟩
  rw [dispatchFill_ln, servedLine_seq, servedLine_region, dispatchFill_xfer, servedLine_xfer, hdispatched]
  refine ⟨fun b hready htag hvis htime hout => ?armed, fun hnone => ?blank⟩
  case armed =>
    have hbuf : (enterLine s).buf b = s.buf b := by
      rw [enterLine_buf_of_inv hb, withdrawBuf_of_ready _ _ hready htag]
    obtain ⟨hown, hxfer, hevents⟩ := armLine_in_time (enterLine s) b (readyForLine_enterLine hb b hready htag)
      ⟨by rwa [enterLine_region], by simpa using htime, by simpa using hout⟩
    rw [← servedLine_buf] at hown
    rw [hbuf] at hxfer hevents
    rw [dispatchFill_buf_of_not_free _ _ (by simp [hown]), hevents, hentered]
    exact ⟨hown, hxfer, by simp⟩
  case blank =>
    obtain ⟨hxfer, hevents⟩ := armLine_unarmed (enterLine s) fun r hfound hc => by
      obtain ⟨hready, htag⟩ := readyForLine_enterLine_some hb r hfound
      rw [enterLine_region, enterLine_tmr, enterLine_mode, enterLine_ctl] at hc
      exact hnone ⟨r, hready, htag, hc⟩
    rw [enterLine_xfer] at hxfer
    have hidle : s.xfer.xst = .idle := hs.serviceIdle (by simp [lineServiceEnabled, hr, hp])
    have hinv := exec_keeps_inv _ _ _ hs hnext
    refine ⟨hxfer, fun c hc => ?_, fun b n => ?_⟩
    · obtain ⟨hne, -⟩ := (hinv.transfer.1 c).mp hc
      rw [dispatchFill_xfer, servedLine_xfer, hxfer] at hne
      exact hne hidle
    · rw [hevents, hentered, List.append_assoc, List.drop_left, List.mem_append]
      rintro (he | he)
      · exact hnoarm b n he
      · obtain ⟨_, _, he⟩ := hreq _ he
        cases he

end Sys2Proof.Machine
end

section
/-! PROOF. The arbiter's grants (41_resync_arbiter.md R212) and SASVC (R200 to R204): when each service completes, and what
the divergence check asks for. -/

namespace Sys2Proof.Machine

/-! ### The grants (R212) -/

theorem lineServiceEnabled_iff (s : State) :
    lineServiceEnabled s = true ↔ s.ctl.drv = .rastering ∧ s.tmr.ltPend = true := by simp [lineServiceEnabled]

theorem shockServiceEnabled_iff (s : State) :
    shockServiceEnabled s = true ↔ s.ctl.drv = .rastering ∧ s.tmr.saPend = true ∧ s.tmr.ltPend = false := by
  simp [shockServiceEnabled, and_assoc]

/-- A line service that is not granted is refused (R212; log entry 5). -/
theorem exec_ltsvc_refused (s : State) (h : ¬lineServiceEnabled s = true) :
    exec .ltsvc s = .refused .lineServiceNotGranted := if_neg h

/-- A shock-absorber service that is not granted is refused (R212; log entry 5). -/
theorem exec_sasvc_refused (s : State) (h : ¬shockServiceEnabled s = true) :
    exec .sasvc s = .refused .shockServiceNotGranted := if_neg h

/-- A granted shock-absorber service completes with its effect and Dispatch (R200, R212). -/
theorem exec_sasvc_granted (s : State) (h : shockServiceEnabled s = true) :
    exec .sasvc s = .next (dispatchFill (servedShock s)) :=
  (execSasvc_next s _).mpr ⟨h, shockService_eq s⟩

/-- Settles O29: each service completes under its enabling condition and is refused under the negation of it. -/
theorem servicesNeedTheGrant : Obligations.ServicesNeedTheGrant := by
  intro s
  rw [← lineServiceEnabled_iff, ← shockServiceEnabled_iff]
  exact ⟨fun h => ⟨_, (execLtsvc_next s _).mpr ⟨h, rfl⟩⟩, exec_ltsvc_refused s,
    fun h => ⟨_, exec_sasvc_granted s h⟩, exec_sasvc_refused s⟩

/-! ### The divergence check (R200, R201) -/

/-- The three grounds of a divergence (R201 (a) to (c)). -/
theorem diverged_iff (s : State) :
    diverged s = true ↔ s.tmr.ltLost ≠ 0 ∨ s.tmr.ltCnt.toNat < s.tmr.wdCnt.toNat ∨
      s.tmr.wdCnt.toNat + s.mode.saTol.toNat < s.tmr.ltCnt.toNat := by
  simp only [diverged, Bool.or_eq_true, decide_eq_true_eq, or_assoc]
  refine or_congr_right (or_congr_right ?_)
  omega

/-- The check speaks of the mode and the timers alone. -/
theorem diverged_congr (s t : State) (hm : s.mode = t.mode) (ht : s.tmr = t.tmr) : diverged s = diverged t := by
  rw [diverged, diverged, hm, ht]

theorem servedShock_of_diverged (s : State) (h : diverged s = true) :
    servedShock s = requestResync (takeShock s) := if_pos h

theorem servedShock_of_not_diverged (s : State) (h : ¬diverged s = true) : servedShock s = takeShock s := if_neg h

@[simp] theorem servedShock_drv (s : State) : (servedShock s).ctl.drv = s.ctl.drv := by unfold servedShock; split <;> rfl
@[simp] theorem servedShock_ltPend (s : State) : (servedShock s).tmr.ltPend = s.tmr.ltPend := by
  unfold servedShock; split <;> rfl
@[simp] theorem servedShock_saPend (s : State) : (servedShock s).tmr.saPend = false := by unfold servedShock; split <;> rfl

/-- Settles O36: the two branches of the divergence check. -/
theorem shockServiceDetectsDivergence : Obligations.ShockServiceDetectsDivergence := by
  intro s hr hsa hlt
  rw [exec_sasvc_granted s ((shockServiceEnabled_iff s).mpr ⟨hr, hsa, hlt⟩), ← diverged_iff]
  refine ⟨fun hd => ?_, fun hd => ?_⟩
  · rw [servedShock_of_diverged s hd]
    rfl
  · rw [servedShock_of_not_diverged s hd]
    rfl

end Sys2Proof.Machine
end

section
/-! PROOF. The ideal schedule (41_resync_arbiter.md R214): what one ideal tick can do, and the lock step it keeps. -/

namespace Sys2Proof.Machine

/-! ### The stages of a tick, as they act on the timers -/

theorem exec_tick (s : State) : exec .tick s = .next (tick s) := rfl

theorem tick_tmr (s : State) (h : s.ctl.drv = .rastering) : (tick s).tmr = (tickTimers s).tmr := by
  rw [tick, if_pos h]
  simp

@[simp] theorem tick_mode (s : State) : (tick s).mode = s.mode := by unfold tick; split <;> simp

@[simp] theorem tick_ctl (s : State) : (tick s).ctl = s.ctl := by unfold tick; split <;> simp

@[simp] theorem tick_ln (s : State) : (tick s).ln = s.ln := by unfold tick; split <;> simp

/-- The counts at which the shock-absorber timer fires (R156). -/
def shockDue (s : State) : Bool := decide (s.tmr.ltCnt = s.mode.saPhase ∧ s.tmr.saDivCnt = 0)

/-- The divider after a line-timer wrap (R154). -/
def nextDiv (s : State) : BitVec 8 :=
  if s.tmr.saDivCnt.toNat + 1 = s.mode.saDiv.toNat then 0 else s.tmr.saDivCnt + 1

theorem countTick_of_no_wrap (s : State) (h : timerWraps s = false) :
    (countTick s).tmr = { s.tmr with ltCnt := s.tmr.ltCnt + 1, wdCnt := satAdd 16 s.tmr.wdCnt 1 } := by
  simp [countTick, h]

/-- The timers after a tick within a line (R152, R153, R156). -/
theorem tickTimers_within (s : State) (h : timerWraps s = false) :
    (tickTimers s).tmr =
      { (countTick s).tmr with saPend := s.tmr.saPend || shockDue (countTick s) } := by
  rw [tickTimers_of_no_wrap s h, shockFiring_tmr]
  rfl

/-- At the start of a line the shock-absorber timer does not fire, because SA_PHASE is not 0 (R156, R282). -/
theorem tickTimers_at_wrap (s : State) (h : timerWraps s = true) (hphase : s.mode.saPhase ≠ 0#16) :
    (tickTimers s).tmr = (lineFiring (countTick s)).tmr := by
  have hcount : (lineFiring (countTick s)).tmr.ltCnt = 0#16 := by
    rw [(lineFiring_counts _).1]
    simp [countTick, h]
  rw [tickTimers_of_wrap s h, shockFiring_tmr, hcount]
  simp [hphase.symm]

/-- The timers at the start of a line whose firing is suppressed (R154, R155). -/
theorem tickTimers_suppressed (s : State) (h : timerWraps s = true) (hphase : s.mode.saPhase ≠ 0#16)
    (hsupp : s.tmr.ltSupp = true) :
    (tickTimers s).tmr =
      { s.tmr with ltCnt := 0, saDivCnt := nextDiv s, wdCnt := satAdd 16 s.tmr.wdCnt 1, ltSupp := false,
                   ltLost := satAdd 8 s.tmr.ltLost 1 } := by
  rw [tickTimers_at_wrap s h hphase]
  simp [lineFiring, countTick, h, hsupp, nextDiv]

/-- The timers at the start of a line whose firing becomes pending (R154, R155). -/
theorem tickTimers_fired (s : State) (h : timerWraps s = true) (hphase : s.mode.saPhase ≠ 0#16)
    (hsupp : s.tmr.ltSupp = false) (hpend : s.tmr.ltPend = false) :
    (tickTimers s).tmr =
      { s.tmr with ltCnt := 0, saDivCnt := nextDiv s, wdCnt := satAdd 16 s.tmr.wdCnt 1, ltPend := true } := by
  rw [tickTimers_at_wrap s h hphase]
  simp [lineFiring, countTick, h, hsupp, hpend, nextDiv]

/-! ### The ideal tick (R214) -/

theorem itick_of_quiet (s : State) (hline : (tick s).tmr.ltPend = false) (hshock : (tick s).tmr.saPend = false) :
    itick s = .next (tick s) := by
  simp [itick, exec_tick, andThen, serveLine, serveShock, hline, hshock]

theorem itick_of_line_pending (s : State) (hr : s.ctl.drv = .rastering) (hline : (tick s).tmr.ltPend = true)
    (hshock : (tick s).tmr.saPend = false) : itick s = .next (dispatchFill (servedLine (tick s))) := by
  simp [itick, exec_tick, andThen, serveLine, serveShock, hline, exec_ltsvc_granted (tick s) (by simpa using hr) hline,
    servedLine_tmr, hshock]

theorem itick_of_shock_pending (s : State) (hr : s.ctl.drv = .rastering) (hline : (tick s).tmr.ltPend = false)
    (hshock : (tick s).tmr.saPend = true) : itick s = .next (dispatchFill (servedShock (tick s))) := by
  have hgrant := (shockServiceEnabled_iff (tick s)).mpr ⟨by simpa using hr, hshock, hline⟩
  simp [itick, exec_tick, andThen, serveLine, serveShock, hline, hshock, exec_sasvc_granted _ hgrant]

/-- A raster in which every firing has been served: the states between the ticks of the ideal schedule. Unlike `LockStep`
it allows firings that were lost, and a resynchronization that waits for the next line. -/
structure Attended (s : State) : Prop where
  inv : Inv s
  rastering : s.ctl.drv = .rastering
  noLinePending : s.tmr.ltPend = false
  noShockPending : s.tmr.saPend = false

theorem LockStep.attended {s : State} (h : LockStep s) : Attended s :=
  ⟨h.inv, h.rastering, h.noLinePending, h.noShockPending⟩

theorem Attended.ltCnt_lt {s : State} (h : Attended s) : s.tmr.ltCnt.toNat < s.mode.tLine.toNat :=
  (h.inv.raster h.rastering).1

/-- Within a line the line timer counts on below its limit (R152). -/
theorem Attended.next_lt {s : State} (h : Attended s) (hwrap : timerWraps s = false) :
    s.tmr.ltCnt.toNat + 1 < s.mode.tLine.toNat := by
  have hlt := h.ltCnt_lt
  have hne : s.tmr.ltCnt.toNat + 1 ≠ s.mode.tLine.toNat := by simpa [timerWraps] using hwrap
  omega

theorem Attended.countTick_ltCnt {s : State} (h : Attended s) (hwrap : timerWraps s = false) :
    (countTick s).tmr.ltCnt.toNat = s.tmr.ltCnt.toNat + 1 := by
  rw [countTick_of_no_wrap s hwrap]
  exact toNat_add_one _ ((h.next_lt hwrap).trans s.mode.tLine.isLt)

theorem Attended.line_lt {s : State} (h : Attended s) : s.ln.line.toNat < s.mode.lTotal.toNat :=
  (h.inv.raster h.rastering).2.1

theorem Attended.div_lt {s : State} (h : Attended s) : s.tmr.saDivCnt.toNat < s.mode.saDiv.toNat :=
  (h.inv.raster h.rastering).2.2.1

/-- The shock-absorber timer fires within a line, not at its start (R282). -/
theorem Attended.phase {s : State} (h : Attended s) :
    1 ≤ s.mode.saPhase.toNat ∧ s.mode.saPhase.toNat < s.mode.tLine.toNat := by
  obtain ⟨-, -, -, hmode⟩ := h.inv.raster h.rastering
  simp only [modeOk, Bool.and_eq_true, decide_eq_true_eq] at hmode
  obtain ⟨⟨-, hpos⟩, hlt⟩ := hmode
  exact ⟨hpos, hlt⟩

theorem Attended.phase_ne_zero {s : State} (h : Attended s) : s.mode.saPhase ≠ 0#16 := by
  have := h.phase.1
  intro h0
  simp [h0] at this

/-- What an ideal tick does to the timers and the line state, one constructor for each course it can take. -/
inductive IdealTick (s t : State) : Prop
  /-- Within a line: the timers count, and no divergence is found. -/
  | counts (hwrap : timerWraps s = false) (hsample : shockDue (countTick s) = true → ¬diverged (countTick s) = true)
      (htmr : t.tmr = (countTick s).tmr) (hln : t.ln = s.ln)
  /-- Within a line: the shock absorber finds a divergence and requests a resynchronization (R202). -/
  | requests (hwrap : timerWraps s = false) (hsample : diverged (countTick s) = true)
      (htmr : t.tmr = { (countTick s).tmr with resyncReq := true })
      (hln : t.ln = { s.ln with miss := true, resyncCnt := satAdd 16 s.ln.resyncCnt 1 })
  /-- At the start of a line: its firing is suppressed, and so lost (R155). -/
  | suppresses (hwrap : timerWraps s = true) (hsupp : s.tmr.ltSupp = true)
      (htmr : t.tmr = { s.tmr with ltCnt := 0, saDivCnt := nextDiv s, wdCnt := satAdd 16 s.tmr.wdCnt 1,
                                   ltSupp := false, ltLost := satAdd 8 s.tmr.ltLost 1 })
      (hln : t.ln = s.ln)
  /-- At the start of a line: its firing is served, and with it a resynchronization that waits (R161, R174, R176). -/
  | serves (hwrap : timerWraps s = true) (hsupp : s.tmr.ltSupp = false)
      (htmr : t.tmr = { s.tmr with ltCnt := 0, saDivCnt := nextDiv s, wdCnt := 0,
                                   ltLost := if s.tmr.resyncReq then 0 else s.tmr.ltLost, resyncReq := false })
      (hline : t.ln.line = (serviceProgress s).line) (hseq : t.ln.seq = (serviceProgress s).seq)
      (hframe : t.ln.frame = (serviceProgress s).frame) (hresync : t.ln.resyncCnt = s.ln.resyncCnt)

/-- An ideal tick completes, leaves nothing to be served, and takes one of the courses of `IdealTick`. -/
def IdealStep (s t : State) : Prop := itick s = .next t ∧ Attended t ∧ t.mode = s.mode ∧ IdealTick s t

theorem Attended.inv_tick {s : State} (h : Attended s) : Inv (tick s) := exec_keeps_inv .tick s _ h.inv (exec_tick s)

/-- Within a line, at a tick at which the shock-absorber timer does not fire, nothing is served. -/
theorem Attended.idealStep_not_due {s : State} (h : Attended s) (hwrap : timerWraps s = false)
    (hdue : shockDue (countTick s) = false) : ∃ t, IdealStep s t := by
  have htmr : (tick s).tmr = (countTick s).tmr := by
    rw [tick_tmr s h.rastering, tickTimers_within s hwrap, hdue, Bool.or_false]
    rfl
  have hline : (tick s).tmr.ltPend = false := by rw [htmr]; exact h.noLinePending
  have hshock : (tick s).tmr.saPend = false := by rw [htmr]; exact h.noShockPending
  exact ⟨tick s, itick_of_quiet s hline hshock, ⟨h.inv_tick, by simpa using h.rastering, hline, hshock⟩, tick_mode s,
    .counts hwrap (by simp [hdue]) htmr (tick_ln s)⟩

/-- Within a line, at a tick at which the shock-absorber timer fires, the shock absorber is served. -/
theorem Attended.idealStep_due {s : State} (h : Attended s) (hwrap : timerWraps s = false)
    (hdue : shockDue (countTick s) = true) : ∃ t, IdealStep s t := by
  have htmr : (tick s).tmr = { (countTick s).tmr with saPend := true } := by
    rw [tick_tmr s h.rastering, tickTimers_within s hwrap, hdue, Bool.or_true]
  have hline : (tick s).tmr.ltPend = false := by rw [htmr]; exact h.noLinePending
  have hshock : (tick s).tmr.saPend = true := by rw [htmr]
  have hr : (tick s).ctl.drv = .rastering := by simpa using h.rastering
  have hserved : Attended (dispatchFill (servedShock (tick s))) :=
    ⟨exec_keeps_inv _ _ _ h.inv_tick (exec_sasvc_granted _ ((shockServiceEnabled_iff _).mpr ⟨hr, hshock, hline⟩)),
      by simpa using hr, by simpa using hline, by simp⟩
  have htaken : (takeShock (tick s)).tmr = (countTick s).tmr := by
    rw [takeShock, htmr, ← h.noShockPending]
    rfl
  have hdiv : diverged (tick s) = diverged (countTick s) := diverged_congr (takeShock (tick s)) _ (tick_mode s) htaken
  refine ⟨_, itick_of_shock_pending s h.rastering hline hshock, hserved, by simp, ?_⟩
  by_cases hd : diverged (countTick s) = true
  · rw [servedShock_of_diverged _ (hdiv.trans hd)]
    refine .requests hwrap hd ?_ ?_
    · rw [dispatchFill_tmr, requestResync, htaken]
    · rw [dispatchFill_ln, ← tick_ln s]
      rfl
  · rw [servedShock_of_not_diverged _ (by rwa [hdiv])]
    refine .counts hwrap (fun _ => hd) ?_ ?_
    · rw [dispatchFill_tmr, htaken]
    · rw [dispatchFill_ln, ← tick_ln s]
      rfl

/-- At the start of a line whose firing is suppressed nothing is served. -/
theorem Attended.idealStep_suppressed {s : State} (h : Attended s) (hwrap : timerWraps s = true)
    (hsupp : s.tmr.ltSupp = true) : ∃ t, IdealStep s t := by
  have htmr := (tick_tmr s h.rastering).trans (tickTimers_suppressed s hwrap h.phase_ne_zero hsupp)
  have hline : (tick s).tmr.ltPend = false := by rw [htmr]; exact h.noLinePending
  have hshock : (tick s).tmr.saPend = false := by rw [htmr]; exact h.noShockPending
  exact ⟨tick s, itick_of_quiet s hline hshock, ⟨h.inv_tick, by simpa using h.rastering, hline, hshock⟩, tick_mode s,
    .suppresses hwrap hsupp htmr (tick_ln s)⟩

/-- At the start of any other line the line handler is served. -/
theorem Attended.idealStep_served {s : State} (h : Attended s) (hwrap : timerWraps s = true)
    (hsupp : s.tmr.ltSupp = false) : ∃ t, IdealStep s t := by
  have htmr := (tick_tmr s h.rastering).trans
    (tickTimers_fired s hwrap h.phase_ne_zero hsupp h.noLinePending)
  have hline : (tick s).tmr.ltPend = true := by rw [htmr]
  have hshock : (tick s).tmr.saPend = false := by rw [htmr]; exact h.noShockPending
  have hr : (tick s).ctl.drv = .rastering := by simpa using h.rastering
  have hprogress : serviceProgress (tick s) = serviceProgress s := by simp [serviceProgress, advanceCount, htmr]
  refine ⟨_, itick_of_line_pending s h.rastering hline hshock,
    ⟨exec_keeps_inv _ _ _ h.inv_tick (exec_ltsvc_granted _ hr hline), ?_, ?_, ?_⟩, by simp, .serves hwrap hsupp ?_
      ?_ ?_ ?_ ?_⟩
  · rw [dispatchFill_ctl, servedLine_ctl, hr]
  · rw [dispatchFill_tmr, servedLine_tmr]
  · rw [dispatchFill_tmr, servedLine_tmr, hshock]
  · rw [dispatchFill_tmr, servedLine_tmr, htmr, ← h.noLinePending]
  · rw [dispatchFill_ln, servedLine_line, hprogress]
  · rw [dispatchFill_ln, servedLine_seq, hprogress]
  · rw [dispatchFill_ln, servedLine_frame, hprogress]
  · rw [dispatchFill_ln, servedLine_resyncCnt, tick_ln]

/-- Under the ideal schedule every tick completes (R214). -/
theorem Attended.idealStep {s : State} (h : Attended s) : ∃ t, IdealStep s t := by
  cases hwrap : timerWraps s with
  | false =>
    cases hdue : shockDue (countTick s) with
    | false => exact h.idealStep_not_due hwrap hdue
    | true => exact h.idealStep_due hwrap hdue
  | true =>
    cases hsupp : s.tmr.ltSupp with
    | true => exact h.idealStep_suppressed hwrap hsupp
    | false => exact h.idealStep_served hwrap hsupp

/-! ### Lock step -/

/-- Counts that are equal stay equal within a line, where the watchdog is far from saturation. -/
theorem Attended.countTick_latencyZero {s : State} (h : Attended s) (hwrap : timerWraps s = false)
    (hzero : s.tmr.wdCnt = s.tmr.ltCnt) : (countTick s).tmr.wdCnt = (countTick s).tmr.ltCnt := by
  have hnext := h.next_lt hwrap
  have hlimit := s.mode.tLine.isLt
  apply BitVec.eq_of_toNat_eq
  rw [h.countTick_ltCnt hwrap, countTick_of_no_wrap s hwrap, toNat_satAdd, hzero]
  omega

/-- With no firing lost and latency 0 no divergence is found (R201). -/
theorem not_diverged_of_latencyZero (s : State) (hlost : s.tmr.ltLost = 0) (h : s.tmr.wdCnt = s.tmr.ltCnt) :
    ¬diverged s = true := by
  rw [diverged_iff, hlost, h]
  simp

/-- An ideal tick from lock step keeps lock step, and counts no divergence (R214). -/
theorem LockStep.idealTick {s t : State} (h : LockStep s) (ht : Attended t) (hi : IdealTick s t) :
    LockStep t ∧ t.ln.resyncCnt = s.ln.resyncCnt := by
  have hzero := h.attended.countTick_latencyZero
  cases hi with
  | counts hwrap _ htmr hln =>
    rw [hln]
    refine ⟨⟨ht.inv, ht.rastering, ht.noLinePending, ht.noShockPending, ?_, ?_, ?_, ?_⟩, rfl⟩ <;> rw [htmr]
    · exact h.noSuppression
    · exact h.nothingLost
    · exact h.noResync
    · exact hzero hwrap h.latencyZero
  | requests hwrap hsample =>
    exact absurd hsample (not_diverged_of_latencyZero _ h.nothingLost (hzero hwrap h.latencyZero))
  | suppresses _ hsupp => simp [h.noSuppression] at hsupp
  | serves _ _ htmr _ _ _ hresync =>
    refine ⟨⟨ht.inv, ht.rastering, ht.noLinePending, ht.noShockPending, ?_, ?_, ?_, ?_⟩, hresync⟩ <;> rw [htmr]
    · exact h.noSuppression
    · simp [h.nothingLost]

/-- Settles O58: from lock step the courses with a suppressed firing or a divergence are excluded. -/
theorem idealTickKeepsLockStep : Obligations.IdealTickKeepsLockStep := by
  intro s h
  obtain ⟨t, hnext, ht, -, hi⟩ := h.attended.idealStep
  exact ⟨t, hnext, h.idealTick ht hi⟩

end Sys2Proof.Machine
end

section
/-! PROOF. Real time under the ideal schedule (41_resync_arbiter.md R206, R214, 70_reset_and_hazards.md R381, R382): the
line the block is due to be in follows the line timer, whatever firings were lost, and the shock absorber brings the block
to the line it is due to be in. -/

namespace Sys2Proof.Machine

/-! ### Positions in the raster -/

/-- A position in the raster: the line of its frame, and the numbers of lines and frames before it. -/
structure Position where
  seq : BitVec 32
  line : Nat
  frame : BitVec 32

/-- The position `k` lines on, in frames of `total` lines (R161, R162, R165). -/
def Position.advance (total k : Nat) (p : Position) : Position where
  seq := p.seq + BitVec.ofNat 32 k
  line := (p.line + k) % total
  frame := p.frame + BitVec.ofNat 32 ((p.line + k) / total)

theorem Position.advance_zero (total : Nat) (p : Position) (h : p.line < total) : p.advance total 0 = p := by
  simp [Position.advance, Nat.mod_eq_of_lt h, Nat.div_eq_of_lt h]

/-- Wraps counted in two parts are the wraps of the whole. -/
theorem div_add_mod_add_div (l k n : Nat) : l / n + (l % n + k) / n = (l + k) / n := by
  rcases Nat.eq_zero_or_pos n with rfl | hn
  · simp
  · rw [Nat.add_comm (l / n), ← Nat.add_mul_div_left _ _ hn, Nat.add_right_comm, Nat.mod_add_div]

theorem Position.advance_advance (total j k : Nat) (p : Position) :
    (p.advance total j).advance total k = p.advance total (j + k) := by
  simp only [Position.advance, Nat.mod_add_mod, BitVec.add_assoc, ← BitVec.ofNat_add, div_add_mod_add_div, Nat.add_assoc]

/-- The position the block is in (R54 to R56). -/
def position (s : State) : Position := ⟨s.ln.seq, s.ln.line.toNat, s.ln.frame⟩

/-- The position the block would be in, had no firing been lost (R201, R202). -/
def duePosition (s : State) : Position := (position s).advance s.mode.lTotal.toNat s.tmr.ltLost.toNat

/-- With no firing lost the block is in the position it is due to be in. -/
theorem Attended.duePosition_of_nothing_lost {s : State} (h : Attended s) (hlost : s.tmr.ltLost = 0) :
    duePosition s = position s := by
  rw [duePosition, hlost]
  exact Position.advance_zero _ _ h.line_lt

/-- A line service ends `advanceCount` lines on (R161, R162). -/
theorem position_of_serviceProgress {s t : State} (hs : s.ln.line.toNat < s.mode.lTotal.toNat)
    (hline : t.ln.line = (serviceProgress s).line) (hseq : t.ln.seq = (serviceProgress s).seq)
    (hframe : t.ln.frame = (serviceProgress s).frame) :
    position t = (position s).advance s.mode.lTotal.toNat (advanceCount s) := by
  rw [position, hline, hseq, hframe, serviceProgress, advanceLines_seq, advanceLines_line _ _ _ hs,
    advanceLines_frame _ _ _ hs]
  rfl

/-! ### Real time -/

/-- How many times the line timer wraps in the `n` ticks after `s` (R152). -/
def wrapsIn (n : Nat) (s : State) : Nat := (s.tmr.ltCnt.toNat + n) / s.mode.tLine.toNat

theorem Attended.wrapsIn_zero {s : State} (h : Attended s) : wrapsIn 0 s = 0 := Nat.div_eq_of_lt h.ltCnt_lt

theorem wrapsIn_one_of_wrap {s : State} (h : timerWraps s = true) : wrapsIn 1 s = 1 := by
  rw [timerWraps_iff] at h
  rw [wrapsIn, h]
  exact Nat.div_self (by omega)

theorem Attended.wrapsIn_one_of_no_wrap {s : State} (h : Attended s) (hwrap : timerWraps s = false) :
    wrapsIn 1 s = 0 := Nat.div_eq_of_lt (h.next_lt hwrap)

/-- `t` is where real time has got to `n` ticks after `s`: the line timer, and the line the block is due to be in (R382). -/
structure RealTime (n : Nat) (s t : State) : Prop where
  mode : t.mode = s.mode
  count : t.tmr.ltCnt.toNat = (s.tmr.ltCnt.toNat + n) % s.mode.tLine.toNat
  due : duePosition t = (duePosition s).advance s.mode.lTotal.toNat (wrapsIn n s)

theorem Attended.realTime_zero {s : State} (h : Attended s) : RealTime 0 s s where
  mode := rfl
  count := (Nat.mod_eq_of_lt h.ltCnt_lt).symm
  due := by
    rw [h.wrapsIn_zero, duePosition, Position.advance_advance]
    rfl

/-- The wraps of one tick and of the ticks after it are the wraps of them all. -/
theorem RealTime.wrapsIn_succ {s t : State} {n : Nat} (h : RealTime 1 s t) :
    wrapsIn 1 s + wrapsIn n t = wrapsIn (n + 1) s := by
  rw [wrapsIn, wrapsIn, h.mode, h.count, wraps_succ]
  rfl

theorem RealTime.cons {s t u : State} {n : Nat} (h : RealTime 1 s t) (ht : RealTime n t u) : RealTime (n + 1) s u where
  mode := ht.mode.trans h.mode
  count := by rw [ht.count, h.mode, h.count, Nat.mod_add_mod, Nat.add_assoc, Nat.add_comm 1]
  due := by rw [ht.due, h.mode, h.due, Position.advance_advance, h.wrapsIn_succ]

/-- Within a line an ideal tick counts one and leaves the line (R152). -/
theorem Attended.realTime_within {s t : State} (h : Attended s) (hm : t.mode = s.mode) (hwrap : timerWraps s = false)
    (hcount : t.tmr.ltCnt = (countTick s).tmr.ltCnt) (hlost : t.tmr.ltLost = s.tmr.ltLost)
    (hpos : position t = position s) : RealTime 1 s t where
  mode := hm
  count := by rw [hcount, h.countTick_ltCnt hwrap, Nat.mod_eq_of_lt (h.next_lt hwrap)]
  due := by
    rw [h.wrapsIn_one_of_no_wrap hwrap]
    simp only [duePosition, hm, hlost, hpos, Position.advance_advance, Nat.add_zero]

/-- At a wrap the block is due one line on, if what it advances over and what it has lost grow by one line together. -/
theorem realTime_at_wrap {s t : State} {k : Nat} (hm : t.mode = s.mode) (hwrap : timerWraps s = true)
    (hcount : t.tmr.ltCnt = 0) (hpos : position t = (position s).advance s.mode.lTotal.toNat k)
    (hlost : k + t.tmr.ltLost.toNat = s.tmr.ltLost.toNat + 1) : RealTime 1 s t where
  mode := hm
  count := by
    rw [hcount, (timerWraps_iff s).mp hwrap, Nat.mod_self]
    rfl
  due := by
    rw [wrapsIn_one_of_wrap hwrap]
    simp only [duePosition, hm, hpos, Position.advance_advance, hlost]

/-- An ideal tick takes the block from where it is due to be to where it is due to be, as long as the count of lost firings
does not saturate: a suppressed firing is one line more to catch up, a service advances over what is lost (R155, R161). -/
theorem IdealTick.realTime {s t : State} (hi : IdealTick s t) (h : Attended s) (hm : t.mode = s.mode)
    (hlost : s.tmr.ltSupp = true → s.tmr.ltLost.toNat < 0xFF) : RealTime 1 s t := by
  cases hi with
  | counts hwrap _ htmr hln =>
    exact h.realTime_within hm hwrap (by rw [htmr]) (by rw [htmr]; rfl) (by simp [position, hln])
  | requests hwrap _ htmr hln =>
    exact h.realTime_within hm hwrap (by rw [htmr]) (by rw [htmr]; rfl) (by simp [position, hln])
  | suppresses hwrap hsupp htmr hln =>
    refine realTime_at_wrap (k := 0) hm hwrap (by rw [htmr]) ?_ ?_
    · rw [Position.advance_zero _ _ h.line_lt]
      simp [position, hln]
    · have := hlost hsupp
      rw [htmr, toNat_satAdd]
      omega
  | serves hwrap _ htmr hline hseq hframe =>
    refine realTime_at_wrap hm hwrap (by rw [htmr]) (position_of_serviceProgress h.line_lt hline hseq hframe) ?_
    rw [htmr, advanceCount]
    split_ifs <;> simp [Nat.add_comm]

/-! ### Catching up (R206) -/

theorem Attended.nextDiv_toNat {s : State} (h : Attended s) :
    (nextDiv s).toNat = if s.tmr.saDivCnt.toNat + 1 = s.mode.saDiv.toNat then 0 else s.tmr.saDivCnt.toNat + 1 := by
  have hlt := h.div_lt
  have hlimit := s.mode.saDiv.isLt
  unfold nextDiv
  split_ifs
  · rfl
  · exact toNat_add_one _ (by omega)

/-- After how many wraps a lost firing is caught up that the shock absorber has not found yet: those to the next line in
which its timer fires, and the one after that line. -/
def wrapsToCatchUp (s : State) : Nat :=
  if s.tmr.saDivCnt.toNat = 0 then 1 else s.mode.saDiv.toNat - s.tmr.saDivCnt.toNat + 1

/-- `Recovers k s`: under the ideal schedule the block is in lock step after `k` more wraps of the line timer. It is so
already, or a firing is to be suppressed, or one is lost and the shock absorber is yet to find it, or it has. -/
inductive Recovers (k : Nat) (s : State) : Prop
  | inStep (h : LockStep s)
  | suppressed (hsupp : s.tmr.ltSupp = true) (hlost : s.tmr.ltLost = 0) (hreq : s.tmr.resyncReq = false)
      (hzero : s.tmr.wdCnt = s.tmr.ltCnt) (hk : s.mode.saDiv.toNat + 1 ≤ k)
  | behind (hsupp : s.tmr.ltSupp = false) (hlost : s.tmr.ltLost = 1) (hreq : s.tmr.resyncReq = false)
      (hphase : s.tmr.saDivCnt.toNat = 0 → s.tmr.ltCnt.toNat < s.mode.saPhase.toNat) (hk : wrapsToCatchUp s ≤ k)
  | found (hsupp : s.tmr.ltSupp = false) (hlost : s.tmr.ltLost = 1) (hreq : s.tmr.resyncReq = true) (hk : 1 ≤ k)

/-- After the last wrap the block is in lock step. -/
theorem Recovers.lockStep {s : State} (h : Recovers 0 s) : LockStep s := by
  cases h with
  | inStep h => exact h
  | suppressed _ _ _ _ hk => omega
  | behind _ _ _ _ hk =>
    unfold wrapsToCatchUp at hk
    split_ifs at hk <;> omega
  | found _ _ _ hk => omega

/-- While the block recovers at most one firing is lost, and none while one is to be suppressed. -/
theorem Recovers.ltLost_lt {k : Nat} {s : State} (h : Recovers k s) (hsupp : s.tmr.ltSupp = true) :
    s.tmr.ltLost.toNat < 0xFF := by
  cases h with
  | inStep h => simp [h.nothingLost]
  | suppressed _ hlost => simp [hlost]
  | behind h => simp [h] at hsupp
  | found h => simp [h] at hsupp

/-- With a firing lost, every sample of the shock absorber finds a divergence (R201 (a)). -/
theorem diverged_of_lost (s : State) (h : s.tmr.ltLost = 1) : diverged s = true := by
  rw [diverged_iff, h]
  exact .inl (by decide)

/-- Before its phase, in a line in which it fires, the shock-absorber timer stays before it until it fires (R156). -/
theorem Attended.before_phase {s : State} (h : Attended s) (hwrap : timerWraps s = false)
    (hline : s.tmr.saDivCnt.toNat = 0) (hphase : s.tmr.ltCnt.toNat < s.mode.saPhase.toNat)
    (hnot : ¬shockDue (countTick s) = true) : (countTick s).tmr.ltCnt.toNat < s.mode.saPhase.toNat := by
  have hne : (countTick s).tmr.ltCnt.toNat ≠ s.mode.saPhase.toNat := fun he =>
    hnot (decide_eq_true ⟨BitVec.eq_of_toNat_eq he, BitVec.eq_of_toNat_eq hline⟩)
  have hcount := h.countTick_ltCnt hwrap
  omega

/-- An ideal tick with a firing to be suppressed (R215): it is still to be suppressed, or it is lost. -/
theorem IdealTick.recovers_of_suppressed {s t : State} {k : Nat} (hi : IdealTick s t) (h : Attended s)
    (hm : t.mode = s.mode) (hsupp : s.tmr.ltSupp = true) (hlost : s.tmr.ltLost = 0) (hreq : s.tmr.resyncReq = false)
    (hzero : s.tmr.wdCnt = s.tmr.ltCnt) (hk : s.mode.saDiv.toNat + 1 ≤ k) : Recovers (k - wrapsIn 1 s) t := by
  have hcounted := h.countTick_latencyZero
  cases hi with
  | counts hwrap _ htmr =>
    rw [h.wrapsIn_one_of_no_wrap hwrap]
    refine .suppressed ?_ ?_ ?_ ?_ (by rwa [hm]) <;> rw [htmr]
    · exact hsupp
    · exact hlost
    · exact hreq
    · exact hcounted hwrap hzero
  | requests hwrap hsample => exact absurd hsample (not_diverged_of_latencyZero _ hlost (hcounted hwrap hzero))
  | suppresses hwrap _ htmr =>
    rw [wrapsIn_one_of_wrap hwrap]
    have hdiv := h.div_lt
    refine .behind (by rw [htmr]) (by rw [htmr, hlost]; rfl) (by rw [htmr]; exact hreq) ?_ ?_
    · rw [htmr, hm]
      exact fun _ => h.phase.1
    · rw [wrapsToCatchUp, htmr, hm]
      split_ifs <;> omega
  | serves _ hn => simp [hn] at hsupp

/-- An ideal tick with a lost firing that the shock absorber is yet to find: it finds it at the next tick at which its
timer fires, and each wrap before that brings that tick one line nearer (R154, R156, R202). -/
theorem IdealTick.recovers_of_behind {s t : State} {k : Nat} (hi : IdealTick s t) (h : Attended s) (hm : t.mode = s.mode)
    (hsupp : s.tmr.ltSupp = false) (hlost : s.tmr.ltLost = 1) (hreq : s.tmr.resyncReq = false)
    (hphase : s.tmr.saDivCnt.toNat = 0 → s.tmr.ltCnt.toNat < s.mode.saPhase.toNat) (hk : wrapsToCatchUp s ≤ k) :
    Recovers (k - wrapsIn 1 s) t := by
  obtain ⟨hpos, hin⟩ := h.phase
  have hdiv := h.div_lt
  unfold wrapsToCatchUp at hk
  cases hi with
  | counts hwrap hsample htmr =>
    rw [h.wrapsIn_one_of_no_wrap hwrap]
    refine .behind (by rw [htmr]; exact hsupp) (by rw [htmr]; exact hlost) (by rw [htmr]; exact hreq) ?_ ?_
    · have hnot : ¬shockDue (countTick s) = true := fun hdue => hsample hdue (diverged_of_lost _ hlost)
      rw [htmr, hm]
      exact fun hline => h.before_phase hwrap hline (hphase hline) hnot
    · rw [wrapsToCatchUp, htmr, hm]
      exact hk
  | requests hwrap _ htmr =>
    rw [h.wrapsIn_one_of_no_wrap hwrap]
    refine .found ?_ ?_ ?_ ?_
    · rw [htmr]; exact hsupp
    · rw [htmr]; exact hlost
    · rw [htmr]
    · split_ifs at hk <;> omega
  | suppresses _ hs => simp [hs] at hsupp
  | serves hwrap _ htmr =>
    rw [wrapsIn_one_of_wrap hwrap]
    have hlast := (timerWraps_iff s).mp hwrap
    refine .behind (by rw [htmr]; exact hsupp) ?_ (by rw [htmr]) ?_ ?_
    · rw [htmr, hreq]
      exact hlost
    · rw [htmr, hm]
      exact fun _ => hpos
    · rw [wrapsToCatchUp, htmr, hm, h.nextDiv_toNat]
      split_ifs at hk ⊢ <;> omega

/-- An ideal tick with a resynchronization requested: the next line service applies it (R161, R174). -/
theorem IdealTick.recovers_of_found {s t : State} {k : Nat} (hi : IdealTick s t) (h : Attended s) (ht : Attended t)
    (hsupp : s.tmr.ltSupp = false) (hlost : s.tmr.ltLost = 1) (hreq : s.tmr.resyncReq = true) (hk : 1 ≤ k) :
    Recovers (k - wrapsIn 1 s) t := by
  cases hi with
  | counts hwrap _ htmr =>
    rw [h.wrapsIn_one_of_no_wrap hwrap]
    refine .found ?_ ?_ ?_ hk <;> rw [htmr]
    · exact hsupp
    · exact hlost
    · exact hreq
  | requests hwrap _ htmr =>
    rw [h.wrapsIn_one_of_no_wrap hwrap]
    refine .found ?_ ?_ ?_ hk <;> rw [htmr]
    · exact hsupp
    · exact hlost
  | suppresses _ hs => simp [hs] at hsupp
  | serves _ _ htmr =>
    refine .inStep ⟨ht.inv, ht.rastering, ht.noLinePending, ht.noShockPending, ?_, ?_, ?_, ?_⟩ <;> rw [htmr]
    · exact hsupp
    · rw [hreq]
      rfl

theorem Recovers.idealTick {s t : State} {k : Nat} (hrec : Recovers k s) (h : Attended s) (ht : Attended t)
    (hm : t.mode = s.mode) (hi : IdealTick s t) : Recovers (k - wrapsIn 1 s) t := by
  cases hrec with
  | inStep h => exact .inStep (h.idealTick ht hi).1
  | suppressed hsupp hlost hreq hzero hk => exact hi.recovers_of_suppressed h hm hsupp hlost hreq hzero hk
  | behind hsupp hlost hreq hphase hk => exact hi.recovers_of_behind h hm hsupp hlost hreq hphase hk
  | found hsupp hlost hreq hk => exact hi.recovers_of_found h ht hsupp hlost hreq hk

/-- The ideal schedule, by induction on the ticks: every tick completes, real time passes, and the block recovers. -/
theorem Recovers.iticks (n : Nat) {s : State} {k : Nat} (hrec : Recovers k s) (h : Attended s) :
    ∃ t, iticks n s = .next t ∧ Attended t ∧ RealTime n s t ∧ Recovers (k - wrapsIn n s) t := by
  induction n generalizing s k with
  | zero => exact ⟨s, rfl, h, h.realTime_zero, by rwa [h.wrapsIn_zero]⟩
  | succ n ih =>
    obtain ⟨v, hnext, hv, hm, hi⟩ := h.idealStep
    have hreal := hi.realTime h hm hrec.ltLost_lt
    obtain ⟨t, hrun, ht, hrealt, hrect⟩ := ih (hrec.idealTick h hv hm hi) hv
    refine ⟨t, ?_, ht, hreal.cons hrealt, ?_⟩
    · rw [Machine.iticks, hnext]
      exact hrun
    · rwa [Nat.sub_sub, hreal.wrapsIn_succ] at hrect

/-- In lock step the line state is that of real time since a state that was due to be where `s` was. -/
theorem RealTime.line_of_lockStep {s u t : State} {n : Nat} (h : RealTime n u t) (ht : LockStep t)
    (hm : u.mode = s.mode) (hdue : duePosition u = position s) :
    t.ln.seq = s.ln.seq + BitVec.ofNat 32 (wrapsIn n u) ∧
      t.ln.line.toNat = (s.ln.line.toNat + wrapsIn n u) % s.mode.lTotal.toNat ∧
      t.ln.frame = s.ln.frame + BitVec.ofNat 32 ((s.ln.line.toNat + wrapsIn n u) / s.mode.lTotal.toNat) := by
  have hpos := h.due
  rw [ht.attended.duePosition_of_nothing_lost ht.nothingLost, hdue, hm] at hpos
  exact ⟨congrArg Position.seq hpos, congrArg Position.line hpos, congrArg Position.frame hpos⟩

/-- Settles O59: a block in lock step stays in it, and so is where real time has got to. -/
theorem idealTicksKeepRealTime : Obligations.IdealTicksKeepRealTime := by
  intro n s h
  obtain ⟨t, hrun, -, hreal, hrec⟩ := Recovers.iticks n (k := 0) (.inStep h) h.attended
  rw [Nat.zero_sub] at hrec
  refine ⟨t, hrun, hrec.lockStep, ?_⟩
  rintro wraps rfl
  exact ⟨hreal.count,
    hreal.line_of_lockStep hrec.lockStep rfl (h.attended.duePosition_of_nothing_lost h.nothingLost)⟩

theorem exec_injectLtSuppress_rastering (s : State) (h : s.ctl.drv = .rastering) :
    exec .injectLtSuppress s = .next (dispatchFill { s with tmr := { s.tmr with ltSupp := true } }) :=
  congrArg (fun u => Host.Outcome.next (dispatchFill u)) (if_pos h)

/-- Settles O60: the suppressed firing is one to recover from within SA_DIV + 1 wraps. -/
theorem lostFiringIsCaughtUp : Obligations.LostFiringIsCaughtUp := by
  intro n s h
  have hexec := exec_injectLtSuppress_rastering s h.rastering
  refine ⟨_, hexec, ?_⟩
  generalize hu : dispatchFill { s with tmr := { s.tmr with ltSupp := true } } = u at hexec ⊢
  have hmode : u.mode = s.mode := by simp [← hu]
  have hln : u.ln = s.ln := by simp [← hu]
  have htmr : u.tmr = { s.tmr with ltSupp := true } := by simp [← hu]
  have hatt : Attended u := by
    refine ⟨exec_keeps_inv _ _ _ h.inv hexec, by simpa [← hu] using h.rastering, ?_, ?_⟩ <;> rw [htmr]
    · exact h.noLinePending
    · exact h.noShockPending
  have hrec : Recovers (s.mode.saDiv.toNat + 1) u := by
    refine .suppressed ?_ ?_ ?_ ?_ (by rw [hmode]) <;> rw [htmr]
    · exact h.nothingLost
    · exact h.noResync
    · exact h.latencyZero
  have hdue : duePosition u = position s := by
    rw [hatt.duePosition_of_nothing_lost (by rw [htmr]; exact h.nothingLost), position, hln]
    rfl
  have hwraps : wrapsIn n u = (s.tmr.ltCnt.toNat + n) / s.mode.tLine.toNat := by rw [wrapsIn, hmode, htmr]
  rintro wraps rfl hle
  obtain ⟨t, hrun, -, hreal, hrect⟩ := hrec.iticks n hatt
  rw [hwraps, Nat.sub_eq_zero_of_le hle] at hrect
  have hline := hreal.line_of_lockStep hrect.lockStep hmode hdue
  rw [hwraps] at hline
  exact ⟨t, hrun, hrect.lockStep, hline⟩

end Sys2Proof.Machine
end

section
/-! PROOF. The buffer controller's operations (42_buffer_controller.md R232 to R246): Dispatch and the least FREE buffer, the
end of a fill, the checks of the buffer windows in their order, and the DMA read port. -/

namespace Sys2Proof.Machine

/-! ### Dispatch (R232, R234) -/

/-- What handing the request to buffer `b` changes: the buffer, the handshake and the events (R232). -/
theorem dispatchTo_eq (b : Fin 8) (s : State) : dispatchTo b s = { s with
    bufs := s.bufs.set b ⟨.filling, false, s.rm.pendSeq, s.rm.pendLine, (s.buf b).vrange⟩
    rm := ⟨true, b, s.rm.pendLine, false, s.rm.pendSeq, s.rm.pendLine⟩
    events := s.events ++ [.rmReq b s.rm.pendLine] } := rfl

/-- With a request waiting and no fill in service, Dispatch takes the least FREE buffer (R234). -/
theorem dispatchFill_of_least_free (s : State) (b : Fin 8) (hpend : s.rm.pend = true) (hbusy : s.rm.busy = false)
    (hb : s.hasBuf b = true) (hfree : (s.buf b).own = .free) (hleast : ∀ c < b, (s.buf c).own ≠ .free) :
    dispatchFill s = dispatchTo b s := by
  have hfirst : firstBuf (fun x => decide (x.own = .free)) s = some b :=
    firstBuf_eq_some _ s b hb (by simp [hfree]) fun c hc _ => by simp [hleast c hc]
  simp [dispatchFill, hpend, hbusy, hfirst]

/-- Dispatch changes nothing without a FREE buffer (R232). -/
theorem dispatchFill_of_no_free (s : State) (h : ∀ b, s.hasBuf b = true → (s.buf b).own ≠ .free) :
    dispatchFill s = s :=
  dispatchFill_of_waitingForCause fun _ => .inr h

/-- Settles O37: the least FREE buffer is the one found, and each of the three obstacles leaves the state as it is. -/
theorem dispatchServesWaitingRequest : Obligations.DispatchServesWaitingRequest := by
  intro s
  refine ⟨fun b hpend hbusy hb hfree hleast => ?_, fun h => ?_, dispatchFill_idem s⟩
  · rw [dispatchFill_of_least_free s b hpend hbusy ((hasBuf_iff s b).mpr hb) hfree hleast, dispatchTo_eq]
  · obtain hpend | hbusy | hnone := h
    · exact dispatchFill_of_no_request s hpend
    · exact dispatchFill_of_busy s hbusy
    · exact dispatchFill_of_no_free s fun b hb => hnone b ((hasBuf_iff s b).mp hb)

/-! ### The end of a fill (R236 to R239) -/

/-- RM_DONE is written to a register that is always mapped; the Dispatch of the write repeats that of RM_DONE (R236, R272). -/
theorem exec_hwrRmDone (vr : Word) (s : State) :
    exec (.hwrRmDone vr) s = .next (dispatchFill (if s.rm.busy then finishFill vr s else raise .ownViol s)) :=
  congrArg Host.Outcome.next (dispatchFill_idem _)

/-- The end of a fill changes the clamping error, the buffer of the request and the busy bit (R236). -/
theorem finishFill_eq (vr : Word) (s : State) : finishFill vr s = { s with
    err := { s.err with clamped := s.err.clamped || decide (s.params.bufBytes < vr.toNat) }
    bufs := s.bufs.set s.rm.buf (filledBuf vr s)
    rm := { s.rm with busy := false } } := by
  unfold finishFill filledBuf
  by_cases hclamp : s.params.bufBytes < vr.toNat <;> by_cases hdiscard : (s.buf s.rm.buf).discard = true <;>
    simp [hclamp, hdiscard, raise, setBuf]

/-- Settles O39, by the two cases of RM_DONE. -/
theorem rmDoneEndsFill : Obligations.RmDoneEndsFill := by
  intro vr s
  refine ⟨fun hbusy => ?_, fun hidle => ?_⟩
  · rw [exec_hwrRmDone, if_pos hbusy, finishFill_eq]
    rfl
  · rw [exec_hwrRmDone, if_neg (by simp [hidle])]
    rfl

/-- Settles O40: the error is raised, and the request that waits for cause waits on. -/
theorem rmDoneWithoutFillChangesNoBuffer : Obligations.RmDoneWithoutFillChangesNoBuffer := by
  intro vr s hwaits hidle
  obtain ⟨-, hnone⟩ := rmDoneEndsFill vr s
  have hwaits' : WaitingForCause { s with err := { s.err with ownViol := true } } := hwaits
  rw [hnone hidle, dispatchFill_of_waitingForCause hwaits']

/-! ### The checks of a window access (R240) -/

theorem windowCheck_of_misaligned (b : Fin 8) (o : BitVec 12) (n : Size) (s : State) (h : o.toNat % n.bytes ≠ 0) :
    windowCheck b o n s = some .bounds := if_pos h

theorem windowCheck_of_beyond (b : Fin 8) (o : BitVec 12) (n : Size) (s : State) (halign : ¬o.toNat % n.bytes ≠ 0)
    (h : s.params.bufBytes < o.toNat + n.bytes) : windowCheck b o n s = some .bounds := by
  rw [windowCheck, if_neg halign, if_pos h]

theorem windowCheck_of_not_filling (b : Fin 8) (o : BitVec 12) (n : Size) (s : State) (halign : ¬o.toNat % n.bytes ≠ 0)
    (hbound : ¬s.params.bufBytes < o.toNat + n.bytes) (h : (s.buf b).own ≠ .filling) :
    windowCheck b o n s = some .ownViol := by
  rw [windowCheck, if_neg halign, if_neg hbound, if_pos h]

theorem windowCheck_of_passed (b : Fin 8) (o : BitVec 12) (n : Size) (s : State) (halign : ¬o.toNat % n.bytes ≠ 0)
    (hbound : ¬s.params.bufBytes < o.toNat + n.bytes) (h : ¬(s.buf b).own ≠ .filling) :
    windowCheck b o n s = none :=
  (windowCheck_none_iff b o n s).mpr ⟨not_not.mp halign, not_lt.mp hbound, not_not.mp h⟩

theorem hasBuf_eq_false (s : State) (b : Fin 8) (h : ¬b.val < s.params.nbuf) : s.hasBuf b = false :=
  Bool.eq_false_iff.mpr fun hb => h ((hasBuf_iff s b).mp hb)

/-! ### Window writes -/

theorem windowWrite_of_missing (b : Fin 8) (o : BitVec 12) (n : Size) (d : Word) (s : State) (hb : s.hasBuf b = false) :
    windowWrite b o n d s = raise .badAccess s := by simp [windowWrite, hb]

theorem windowWrite_of_error (b : Fin 8) (o : BitVec 12) (n : Size) (d : Word) (s : State) (hb : s.hasBuf b = true)
    (e : ErrBit) (he : windowCheck b o n s = some e) : windowWrite b o n d s = raise e s := by
  rw [windowWrite, if_pos hb, he]

/-- Settles O41: the first check that fails decides. -/
theorem windowWriteChecksInOrder : Obligations.WindowWriteChecksInOrder := by
  intro b n o d s
  rw [exec_ofWindowWrite, writeWindow]
  by_cases hb : b.val < s.params.nbuf
  case neg =>
    rw [if_pos hb, windowWrite_of_missing b o n d s (hasBuf_eq_false s b hb)]
    rfl
  have herror := windowWrite_of_error b o n d s ((hasBuf_iff s b).mpr hb)
  rw [if_neg (not_not.mpr hb)]
  split_ifs with halign hbound hown
  · rw [herror _ (windowCheck_of_misaligned b o n s halign)]
    rfl
  · rw [herror _ (windowCheck_of_beyond b o n s halign hbound)]
    rfl
  · rw [herror _ (windowCheck_of_not_filling b o n s halign hbound hown)]
    rfl
  · rw [windowWrite_of_check b o n d s ((hasBuf_iff s b).mpr hb) (windowCheck_of_passed b o n s halign hbound hown)]

/-! ### Window reads (R243) -/

/-- A byte below a value shifted up by one byte is the two put together (R84). -/
theorem byte_or_shiftLeft (m : Nat) (v : BitVec m) (x : Byte) :
    x.setWidth 32 ||| (v.setWidth 32 <<< 8) = ((v ++ x).setWidth 32 : Word) := by
  ext i hi
  by_cases h : i < 8
  · simp [BitVec.getLsbD_append, h]
  · simp [BitVec.getLsbD_append, h, BitVec.getLsbD_of_ge x i (not_lt.mp h)]

/-- A buffer read puts its first byte below the bytes that follow (R84). -/
theorem bufRead_succ (s : State) (b : Fin 8) (o n m : Nat) (v : BitVec m) (h : bufRead s b (o + 1) n = v.setWidth 32) :
    bufRead s b o (n + 1) = (v ++ readByte s b o).setWidth 32 := by
  rw [bufRead, h, byte_or_shiftLeft]

theorem bufRead_one (s : State) (b : Fin 8) (o : Nat) : bufRead s b o 1 = (readByte s b o).setWidth 32 := by
  simp [bufRead]

theorem bufRead_two (s : State) (b : Fin 8) (o : Nat) :
    bufRead s b o 2 = (readByte s b (o + 1) ++ readByte s b o).setWidth 32 :=
  bufRead_succ s b o 1 8 _ (bufRead_one s b (o + 1))

theorem bufRead_four (s : State) (b : Fin 8) (o : Nat) : bufRead s b o 4 =
    readByte s b (o + 3) ++ readByte s b (o + 2) ++ readByte s b (o + 1) ++ readByte s b o := by
  have hthree := bufRead_succ s b (o + 1) 2 16 _ (bufRead_two s b (o + 2))
  exact (bufRead_succ s b o 3 24 _ hthree).trans (BitVec.setWidth_eq _)

theorem readWindow_of_missing (b : Fin 8) (o : BitVec 12) (n : Size) (s : State) (hb : s.hasBuf b = false) :
    readWindow b n o s = .next (finishRead 0 (raise .badAccess s)) := by simp [readWindow, windowReadError, hb]

theorem readWindow_of_error (b : Fin 8) (o : BitVec 12) (n : Size) (s : State) (hb : s.hasBuf b = true) (e : ErrBit)
    (he : windowCheck b o n s = some e) : readWindow b n o s = .next (finishRead 0 (raise e s)) := by
  simp [readWindow, windowReadError, hb, he]

theorem readWindow_of_check (b : Fin 8) (o : BitVec 12) (n : Size) (s : State) (hb : s.hasBuf b = true)
    (hc : windowCheck b o n s = none) : readWindow b n o s = .next (finishRead (bufRead s b o.toNat n.bytes) s) := by
  simp [readWindow, windowReadError, windowValue, hb, hc]

/-- Settles O43: the first check that fails decides, as for a write; where all pass, the bytes are put together. -/
theorem windowReadReturnsBytes : Obligations.WindowReadReturnsBytes := by
  intro b n o s
  rw [exec_ofWindowRead]
  by_cases hb : b.val < s.params.nbuf
  case neg =>
    rw [if_pos hb, readWindow_of_missing b o n s (hasBuf_eq_false s b hb)]
    rfl
  have herror := readWindow_of_error b o n s ((hasBuf_iff s b).mpr hb)
  rw [if_neg (not_not.mpr hb)]
  split_ifs with halign hbound hown
  · rw [herror _ (windowCheck_of_misaligned b o n s halign)]
    rfl
  · rw [herror _ (windowCheck_of_beyond b o n s halign hbound)]
    rfl
  · rw [herror _ (windowCheck_of_not_filling b o n s halign hbound hown)]
    rfl
  · rw [readWindow_of_check b o n s ((hasBuf_iff s b).mpr hb) (windowCheck_of_passed b o n s halign hbound hown)]
    refine congrArg (fun v => Host.Outcome.next (finishRead v s)) ?_
    cases n with
    | byte => exact bufRead_one s b _
    | half => exact bufRead_two s b _
    | word => exact bufRead_four s b _

/-! ### The DMA read port (R246) -/

theorem dmaHits_iff (o : Addr) (s : State) :
    dmaHits o s = true ↔ s.xfer.xst = .streaming ∧ o.toNat < s.xfer.xlen.toNat := by simp [dmaHits]

theorem dmaByteExists_iff (o : Addr) (s : State) :
    dmaByteExists o s = true ↔ s.xfer.xbuf.val < s.params.nbuf ∧ o.toNat < s.params.bufBytes := by
  simp [dmaByteExists, hasBuf_iff]

theorem exec_drd_outside (o : Addr) (s : State) (h : ¬dmaHits o s = true) :
    exec (.drd o) s = .next (finishDma s.params.blank s) := if_neg h

theorem exec_drd_streamed (o : Addr) (s : State) (h : dmaHits o s = true) (hbyte : dmaByteExists o s = true) :
    exec (.drd o) s = .next (finishDma (readByte s s.xfer.xbuf o.toNat) s) := (if_pos h).trans (if_pos hbyte)

theorem exec_drd_missing (o : Addr) (s : State) (h : dmaHits o s = true) (hbyte : ¬dmaByteExists o s = true) :
    exec (.drd o) s = .fault .dmaByteMissing := (if_pos h).trans (if_neg hbyte)

/-- Settles O44: inside the streaming window where the byte exists, inside it where not, and outside it. -/
theorem dmaReadReturnsStreamedByte : Obligations.DmaReadReturnsStreamedByte := by
  intro o s
  refine ⟨fun h => ?_, fun hx ho hb hbyte => ?_, fun hx ho hmissing => ?_⟩
  · exact exec_drd_outside o s (mt (dmaHits_iff o s).mp h)
  · exact exec_drd_streamed o s ((dmaHits_iff o s).mpr ⟨hx, ho⟩) ((dmaByteExists_iff o s).mpr ⟨hb, hbyte⟩)
  · exact exec_drd_missing o s ((dmaHits_iff o s).mpr ⟨hx, ho⟩) (mt (dmaByteExists_iff o s).mp hmissing)

/-- The effect of any operation changes bytes of FILLING buffers alone (R240, R247). -/
theorem Effect.filling_of_byte_changed {s u : State} {i : Instr} (h : Effect s i u) (b : Fin 8) (p : Nat) (hp : p < 0x1000)
    (hne : readByte u b p ≠ readByte s b p) : (s.buf b).own = .filling := by
  induction h with
  | store n o d c hc hcheck =>
    obtain ⟨halign, -, hown⟩ := (windowCheck_none_iff c o n s).mp hcheck
    obtain ⟨rfl, -, -⟩ := bufWrite_changed c b _ _ p d s hp (aligned_in_window o n halign) hne
    exact hown
  | command d u h ih => exact ih hne
  | covered n a d u hc h ih => exact ih hne
  | _ => exact absurd (readByte_congr _ _ _ _ (by simp [cmdSetOutput]) (by simp [cmdSetOutput])) hne

/-- Settles O19: the streaming buffer is XFER and so is not FILLING; a DRD below its range finds the byte, and its Dispatch
finds no request to serve. -/
theorem streamedBufferIsStable : Obligations.StreamedBufferIsStable := by
  intro s hs hx
  have hown : (s.buf s.xfer.xbuf).own = .xfer := (hs.transfer.1 _).mpr ⟨by simp [hx], rfl⟩
  refine ⟨fun i t hi ht p hp => ?_, fun o ho => ?_⟩
  · obtain ⟨u, hu, rfl⟩ := exec_next i s t hi ht
    rw [readByte_dispatchFill]
    by_contra hne
    simp [hu.filling_of_byte_changed _ p hp hne] at hown
  · have hits : dmaHits o s = true := (dmaHits_iff o s).mpr ⟨hx, ho⟩
    refine ⟨_, exec_drd_streamed o s hits (dmaByteExists_of_inv s hs o hits), ?_⟩
    exact congrArg State.events (dispatchFill_report hs s.err _)

end Sys2Proof.Machine
end

section
/-! PROOF. The owners of the buffers (42_buffer_controller.md R230): the move each effect makes, and the one that Dispatch
adds. -/

namespace Sys2Proof.Machine

/-! ### The moves of R230 -/

/-- Operation `i`, taken in `s`, is one that frees READY buffers (R168, R285, R287). -/
def FreesReady (s : State) (i : Instr) : Prop :=
  i = .ltsvc ∨ CarriesCommand .start i ∨ CarriesCommand .stop i ∧ s.ctl.drv = .rastering

/-- Operation `i`, taken in `s` and leaving `u`, ends the transfer of buffer `b`: STOP, or the TICK that reaches ACT_END
while it streams (R158, R287). -/
def EndsTransfer (s u : State) (i : Instr) (b : Fin 8) : Prop :=
  CarriesCommand .stop i ∨
    i = .tick ∧ s.xfer.xst = .streaming ∧ s.xfer.xbuf = b ∧ u.tmr.ltCnt = s.mode.actEnd

/-- What operation `i`, taken in `s`, may do to the owner of buffer `b` before its Dispatch leaves `u`: the rows of R230 but
for RST's and Dispatch's. -/
inductive OwnerMove (s u : State) (i : Instr) (b : Fin 8) : Prop
  | keep (h : (u.buf b).own = (s.buf b).own)
  | arm (hi : i = .ltsvc) (hs : (s.buf b).own = .ready) (hu : (u.buf b).own = .xfer)
      (hregion : u.ln.region = .visible) (htag : (s.buf b).tag = u.ln.seq)
      (htime : s.tmr.ltCnt.toNat < s.mode.bpEnd.toNat) (hout : s.ctl.outEn = true)
  | finish (vr : Word) (hi : i = .hwrRmDone vr) (hs : (s.buf b).own = .filling)
      (hu : (u.buf b).own = if (s.buf b).discard then .free else .ready)
  | free (hi : FreesReady s i) (hs : (s.buf b).own = .ready) (hu : (u.buf b).own = .free)
  | release (hi : EndsTransfer s u i b) (hr : s.ctl.drv = .rastering) (hs : (s.buf b).own = .xfer)
      (hu : (u.buf b).own = .free)

/-- Withdrawing work keeps the owner of a buffer, or frees a READY one. -/
theorem Withdrawn.own_cases {x y : Buf} (h : Withdrawn x y) : y.own = x.own ∨ x.own = .ready ∧ y.own = .free := by
  obtain ⟨-, hfilling, hxfer, hready, -, -⟩ := h
  cases hx : x.own <;> cases hy : y.own <;> simp_all

theorem withdrawn_mapBufs (f : Buf → Buf) (hf : ∀ x, Withdrawn x (f x)) (s : State) (b : Fin 8) :
    Withdrawn (s.buf b) ((mapBufs f s).buf b) := by
  rw [mapBufs_buf]
  split
  · exact hf _
  · exact .refl _

theorem OwnerMove.of_withdrawn {s u : State} {i : Instr} {b : Fin 8} (hi : FreesReady s i)
    (hw : Withdrawn (s.buf b) (u.buf b)) : OwnerMove s u i b := by
  obtain h | ⟨hs, hu⟩ := hw.own_cases
  · exact .keep h
  · exact .free hi hs hu

/-! ### The move of each effect -/

/-- TICK frees the buffer of the transfer at ACT_END; BP_END, before it, changes no owner (R157, R158). -/
theorem ownerMove_tick {s : State} (h : Inv s) (hr : s.ctl.drv = .rastering) (b : Fin 8) :
    OwnerMove s (endVideo (startVideo (tickTimers s))) .tick b := by
  obtain ⟨-, -, -, hmode⟩ := h.raster hr
  have hactive := (ModeRanges.of_modeOk hmode).active
  by_cases hend : (tickTimers s).tmr.ltCnt = s.mode.actEnd ∧ s.xfer.xst = .streaming
  · obtain ⟨hcount, hx⟩ := hend
    have hvideo := video_at_actEnd (tickTimers s) (by simpa using hcount) (by simpa using hx)
    have hset := setOwn_buf s.xfer.xbuf b .free (emit (.dmaStop s.xfer.xbuf) (tickTimers s))
    simp only [emit_buf, tickTimers_buf] at hset
    have hbuf : (endVideo (startVideo (tickTimers s))).buf b =
        if b = s.xfer.xbuf then { s.buf s.xfer.xbuf with own := .free } else s.buf b := by
      rw [hvideo, tickTimers_xfer]
      exact hset
    split_ifs at hbuf with hb
    · refine .release (.inr ⟨rfl, hx, hb.symm, by simpa using hcount⟩) hr ?_ (by rw [hbuf])
      exact (h.transfer.1 b).mpr ⟨by simp [hx], hb.symm⟩
    · exact .keep (by rw [hbuf])
  · by_cases hstart : (tickTimers s).tmr.ltCnt = s.mode.bpEnd ∧ s.xfer.xst = .armed
    · obtain ⟨hcount, hx⟩ := hstart
      have hne : s.mode.bpEnd ≠ s.mode.actEnd := fun he => by simp [he] at hactive
      rw [video_at_bpEnd (tickTimers s) (by simpa using hne) (by simpa using hcount) (by simpa using hx)]
      exact .keep (congrArg Buf.own (tickTimers_buf s b))
    · rw [video_between (tickTimers s) (by simpa using hstart) (by simpa using hend)]
      exact .keep (by simp)

/-- LTSVC arms or frees the READY buffer of its line, and frees those of other lines (R168 to R171). -/
theorem ownerMove_servedLine {s : State} (h : BufferInv s) (b : Fin 8) : OwnerMove s (servedLine s) .ltsvc b := by
  have hwithdrawn : Withdrawn (s.buf b) ((enterLine s).buf b) := by
    rw [enterLine_buf_of_inv h]
    exact withdrawn_withdrawBuf _ _
  obtain ⟨-, he⟩ | ⟨r, hfound, harm⟩ := armLine_cases (enterLine s)
  · exact .of_withdrawn (.inl rfl) (by rwa [servedLine_buf, he])
  by_cases hb : b = r
  · subst hb
    obtain ⟨hready, htag⟩ := readyForLine_enterLine_some h b hfound
    obtain ⟨hvis, htime, hout, he⟩ | ⟨-, he⟩ := harm
    · refine .arm rfl hready ?_ ?_ ?_ (by simpa using htime) (by simpa using hout)
      · rw [servedLine_buf, he]
        exact congrArg Buf.own ((setOwn_buf b b .xfer _).trans (if_pos rfl))
      · rwa [servedLine_region, ← enterLine_region]
      · rwa [servedLine_seq]
    · refine .free (.inl rfl) hready ?_
      rw [servedLine_buf, he, setOwn_buf, if_pos rfl]
  · obtain ⟨-, hready, -⟩ := readyForLine_some _ r hfound
    have hother : ((enterLine s).buf b).own ≠ .ready := fun hb' => hb (h.enterLine.oneReady b r hb' hready)
    exact .of_withdrawn (.inl rfl) (by rwa [servedLine_buf, armLine_buf_of_not_ready _ b hother])

/-- STOP frees the READY buffers and the buffer of the transfer (R287). -/
theorem ownerMove_stopRaster {s : State} (h : BufferInv s) (hr : s.ctl.drv = .rastering) (b : Fin 8) :
    OwnerMove s (stopRaster s) .stop b := by
  have hwithdrawn : Withdrawn ((stopTransfer s).buf b) ((stopRaster s).buf b) :=
    withdrawn_mapBufs stopBuf withdrawn_stopBuf (stopTransfer s) b
  have hstop : FreesReady s .stop := .inr (.inr ⟨.inl rfl, hr⟩)
  obtain ⟨-, he⟩ | ⟨hx, -, hbuf⟩ := stopTransfer_cases s
  · exact .of_withdrawn hstop (by rwa [he] at hwithdrawn)
  rw [hbuf] at hwithdrawn
  split_ifs at hwithdrawn with hb
  · obtain hfree | ⟨hready, -⟩ := hwithdrawn.own_cases
    · exact .release (.inl (.inl rfl)) hr ((h.transfer.1 b).mpr ⟨hx, hb.symm⟩) hfree
    · cases hready
  · exact .of_withdrawn hstop hwithdrawn

/-- RM_DONE moves the buffer of the request alone (R236). -/
theorem ownerMove_finishFill {s : State} (h : BufferInv s) (vr : Word) (hbusy : s.rm.busy = true) (b : Fin 8) :
    OwnerMove s (finishFill vr s) (.hwrRmDone vr) b := by
  have hbuf := finishFill_buf vr s b
  split_ifs at hbuf with hb
  · refine .finish vr rfl ((h.fill b).mpr ⟨hbusy, hb.symm⟩) ?_
    rw [hbuf, filledBuf_own, hb]
  · exact .keep (by rw [hbuf])

/-- Every command word decodes to a command (R120). -/
theorem isCommand_decodeCmd (d : Word) : Laws.isCommand (decodeCmd d) = true := by
  unfold decodeCmd
  split_ifs <;> rfl

theorem decodeCmd_eq_start (d : Word) (h : decodeCmd d = .start) : cmdOp d = 0x02#8 := by
  unfold decodeCmd at h
  split_ifs at h with h0 h1 h2
  exact h2

theorem decodeCmd_eq_stop (d : Word) (h : decodeCmd d = .stop) : cmdOp d = 0x03#8 := by
  unfold decodeCmd at h
  split_ifs at h with h0 h1 h2 h3
  exact h3

/-- The moves of a command are those of the write to CMD that carries it (R120, R279). -/
theorem OwnerMove.hwrCmd {s u : State} {d : Word} {b : Fin 8} (h : OwnerMove s u (decodeCmd d) b) :
    OwnerMove s u (.hwrCmd d) b := by
  have hcommand := isCommand_decodeCmd d
  cases h with
  | keep h => exact .keep h
  | arm hi => simp [hi, Laws.isCommand] at hcommand
  | finish vr hi => simp [hi, Laws.isCommand] at hcommand
  | free hi hs hu =>
    obtain hi | hi | ⟨hi, hr⟩ := hi
    · simp [hi, Laws.isCommand] at hcommand
    · exact .free (.inr (.inl hi.hwrCmd)) hs hu
    · exact .free (.inr (.inr ⟨hi.hwrCmd, hr⟩)) hs hu
  | release hi hr hs hu =>
    obtain hi | ⟨hi, -⟩ := hi
    · exact .release (.inl hi.hwrCmd) hr hs hu
    · simp [hi, Laws.isCommand] at hcommand

/-- The effect of a well-formed operation moves owners by the rows of R230. -/
theorem Effect.ownerMove {s u : State} {i : Instr} (he : Effect s i u) (h : Inv s) (hw : i.wellFormed = true)
    (b : Fin 8) : OwnerMove s u i b := by
  induction he with
  | tick hr => exact ownerMove_tick h hr b
  | ltsvc => exact ownerMove_servedLine h.bufferInv b
  | sasvc =>
    refine .keep ?_
    unfold servedShock
    split <;> rfl
  | start => exact .of_withdrawn (.inr (.inl (.inl rfl))) (withdrawn_mapBufs freeReady withdrawn_freeReady _ b)
  | stop hr => exact ownerMove_stopRaster h.bufferInv hr b
  | fill vr hbusy => exact ownerMove_finishFill h.bufferInv vr hbusy b
  | store => exact .keep (by rw [bufWrite_eq]; rfl)
  | command d u _ ih => exact (ih (decodeCmd_wellFormed d)).hwrCmd
  | covered n a d u hc => simp [Instr.wellFormed, hc] at hw
  | report | periph | setOutput | suppress => exact .keep rfl
  | configure => exact .keep (by simp)
  | mode => exact .keep (by simp)

/-! ### What the moves say -/

section
variable {s u : State} {i : Instr} {b : Fin 8}

/-- A buffer becomes XFER only from READY, by LTSVC (R169). -/
theorem OwnerMove.becomes_xfer (h : OwnerMove s u i b)
    (hu : (u.buf b).own = .xfer) (hs : (s.buf b).own ≠ .xfer) :
    (s.buf b).own = .ready ∧ i = .ltsvc ∧ u.ln.region = .visible ∧ (s.buf b).tag = u.ln.seq ∧
      s.tmr.ltCnt.toNat < s.mode.bpEnd.toNat ∧ s.ctl.outEn = true := by
  cases h with
  | arm hi hready _ hregion htag htime hout => exact ⟨hready, hi, hregion, htag, htime, hout⟩
  | finish _ _ _ hdone =>
    rw [hu] at hdone
    split_ifs at hdone
  | _ => simp_all

/-- A buffer becomes READY only by the RM_DONE of a fill not discarded (R236). -/
theorem OwnerMove.becomes_ready (h : OwnerMove s u i b)
    (hu : (u.buf b).own = .ready) (hs : (s.buf b).own ≠ .ready) :
    (s.buf b).own = .filling ∧ (s.buf b).discard = false ∧ ∃ vr, i = .hwrRmDone vr := by
  cases h with
  | finish vr hi hfilling hdone => exact ⟨hfilling, by simp_all, vr, hi⟩
  | _ => simp_all

/-- A FILLING buffer is left so only by RM_DONE, READY or, if discarded, FREE (R236, R238). -/
theorem OwnerMove.leaves_filling (h : OwnerMove s u i b)
    (hs : (s.buf b).own = .filling) (hu : (u.buf b).own ≠ .filling) :
    (∃ vr, i = .hwrRmDone vr) ∧ (u.buf b).own = if (s.buf b).discard then .free else .ready := by
  cases h with
  | finish vr hi _ hdone => exact ⟨⟨vr, hi⟩, hdone⟩
  | _ => simp_all

theorem OwnerMove.leaves_ready (h : OwnerMove s u i b)
    (hs : (s.buf b).own = .ready) (hu : (u.buf b).own ≠ .ready) : FreesReady s i := by
  cases h with
  | arm hi => exact .inl hi
  | free hi => exact hi
  | _ => simp_all

theorem OwnerMove.leaves_xfer (h : OwnerMove s u i b)
    (hs : (s.buf b).own = .xfer) (hu : (u.buf b).own ≠ .xfer) :
    (u.buf b).own = .free ∧ s.ctl.drv = .rastering ∧ EndsTransfer s u i b := by
  cases h with
  | release hi hr _ hfree => exact ⟨hfree, hr, hi⟩
  | _ => simp_all

theorem OwnerMove.not_becomes_filling (h : OwnerMove s u i b)
    (hs : (s.buf b).own ≠ .filling) : (u.buf b).own ≠ .filling := by
  cases h with
  | finish _ _ _ hdone =>
    rw [hdone]
    split_ifs <;> nofun
  | _ => simp_all

end

/-! ### The events of an effect -/

theorem startVideo_events_grow (s : State) : s.events <+: (startVideo s).events := by
  unfold startVideo
  split_ifs
  · exact List.prefix_append _ _
  · exact List.prefix_rfl

theorem endVideo_events_grow (s : State) : s.events <+: (endVideo s).events := by
  unfold endVideo
  split_ifs
  · exact List.prefix_append _ _
  · exact List.prefix_rfl

theorem armLine_events_grow (s : State) : s.events <+: (armLine s).events := by
  obtain ⟨-, he⟩ | ⟨r, -, ⟨-, -, -, he⟩ | ⟨-, he⟩⟩ := armLine_cases s <;> rw [he]
  · exact List.prefix_append _ _
  · exact List.prefix_rfl

theorem stopTransfer_events_grow (s : State) : s.events <+: (stopTransfer s).events := by
  unfold stopTransfer
  cases s.xfer.xst with
  | idle | armed => exact List.prefix_rfl
  | streaming => exact List.prefix_append _ _

/-- An effect other than a report appends to the events (R17, R64). -/
theorem Effect.events_cases {s u : State} {i : Instr} (h : Effect s i u) :
    u = { s with err := u.err, events := u.events } ∨ s.events <+: u.events := by
  induction h with
  | report => exact .inl rfl
  | tick =>
    have htimers := (startVideo_events_grow (tickTimers s)).trans (endVideo_events_grow _)
    exact .inr (by rwa [tickTimers_events] at htimers)
  | ltsvc =>
    rw [servedLine_events]
    have henter : s.events <+: (enterLine s).events := by
      rw [enterLine_events]
      exact List.prefix_append _ _
    exact .inr (henter.trans (armLine_events_grow _))
  | sasvc =>
    unfold servedShock
    split <;> exact .inr List.prefix_rfl
  | stop => exact .inr (stopTransfer_events_grow s)
  | store =>
    rw [bufWrite_eq]
    exact .inr List.prefix_rfl
  | command d u h ih => exact ih
  | covered n a d u hc h ih => exact ih
  | configure | fill | mode => exact .inr (by simp)
  | _ => exact .inr List.prefix_rfl

/-- A buffer that Dispatch makes FILLING is named by the request the operation emits (R232): after a report no request can
be served, since one that waits in an invariant state waits for cause. -/
theorem Effect.dispatched_request {s u : State} {i : Instr} (he : Effect s i u) (h : Inv s) {b : Fin 8}
    (hfree : (u.buf b).own = .free) (hd : dispatchFill u = dispatchTo b u) :
    .rmReq b (dispatchTo b u).rm.line ∈ (dispatchTo b u).events.drop s.events.length := by
  obtain hreport | ⟨evs, hevs⟩ := he.events_cases
  · have hidle : dispatchFill u = u := by
      rw [hreport]
      exact dispatchFill_report h _ _
    have hown := dispatchTo_buf b b u
    rw [← hd, hidle, if_pos rfl] at hown
    rw [hown] at hfree
    cases hfree
  · rw [dispatchTo_events, dispatchTo_rm, ← hevs]
    simp

/-! ### The obligation -/

/-- The operations that free READY buffers, with the command words of the writes to CMD that carry them. -/
theorem FreesReady.cases {s : State} {i : Instr} (h : FreesReady s i) :
    i = .ltsvc ∨ i = .start ∨ (i = .stop ∧ s.ctl.drv = .rastering) ∨
      ∃ d, i = .hwrCmd d ∧ (cmdOp d = 0x02#8 ∨ (cmdOp d = 0x03#8 ∧ s.ctl.drv = .rastering)) := by
  obtain hi | (hi | ⟨d, hi, hcmd⟩) | ⟨hi | ⟨d, hi, hcmd⟩, hr⟩ := h
  · exact .inl hi
  · exact .inr (.inl hi)
  · exact .inr (.inr (.inr ⟨d, hi, .inl (decodeCmd_eq_start d hcmd)⟩))
  · exact .inr (.inr (.inl ⟨hi, hr⟩))
  · exact .inr (.inr (.inr ⟨d, hi, .inr ⟨decodeCmd_eq_stop d hcmd, hr⟩⟩))

theorem EndsTransfer.cases {s u : State} {i : Instr} {b : Fin 8} (h : EndsTransfer s u i b) :
    (i = .tick ∧ s.xfer.xst = .streaming ∧ s.xfer.xbuf = b ∧ u.tmr.ltCnt = s.mode.actEnd) ∨ i = .stop ∨
      ∃ d, i = .hwrCmd d ∧ cmdOp d = 0x03#8 := by
  obtain (hi | ⟨d, hi, hcmd⟩) | htick := h
  · exact .inr (.inl hi)
  · exact .inr (.inr ⟨d, hi, decodeCmd_eq_stop d hcmd⟩)
  · exact .inl htick

/-- Settles O23: the effect makes one of the moves of `OwnerMove`, and Dispatch then changes no owner, or makes a FREE buffer
FILLING for the request it emits. -/
theorem ownershipMovesByRule : Obligations.OwnershipMovesByRule := by
  intro i s t hs hw hi ht b
  obtain ⟨u, he, rfl⟩ := exec_next i s t hi ht
  have hmove := he.ownerMove hs hw b
  rw [dispatchFill_ln, dispatchFill_tmr]
  obtain hkept | ⟨-, hfree, hd⟩ := dispatchFill_buf_cases u b
  case inl =>
    rw [hkept]
    refine ⟨hmove.becomes_xfer, hmove.becomes_ready, hmove.leaves_filling,
      fun hready hne => (hmove.leaves_ready hready hne).cases, fun hx hne => ?_,
      fun hu hne => absurd hu (hmove.not_becomes_filling hne)⟩
    obtain ⟨hfree, hr, hends⟩ := hmove.leaves_xfer hx hne
    exact ⟨.inl hfree, hr, hends.cases⟩
  case inr =>
    have hown : ((dispatchFill u).buf b).own = .filling := by rw [hd, dispatchTo_buf, if_pos rfl]
    rw [hown]
    refine ⟨nofun, nofun, fun _ hne => absurd rfl hne,
      fun hready _ => (hmove.leaves_ready hready (by simp [hfree])).cases, fun hx _ => ?_, fun _ _ => ?_⟩
    · obtain ⟨-, hr, hends⟩ := hmove.leaves_xfer hx (by simp [hfree])
      exact ⟨.inr rfl, hr, hends.cases⟩
    · have hrequest := he.dispatched_request hs hfree hd
      rw [hd, dispatchTo_buf, if_pos rfl]
      exact ⟨rfl, rfl, rfl, hrequest⟩

end Sys2Proof.Machine
end

section
/-! PROOF. The host bus of the front end (43_front_end.md R270 to R277, 30_encoding.md R115): what a read or a write of each
register does, and every host-bus word as the one rule of R271 or R272. -/

namespace Sys2Proof.Machine

/-! ### Register reads (R270, R271) -/

/-- Only a per-buffer register of a missing buffer is unmapped (R67, R87). -/
theorem regMapped_iff (r : HostReg) (s : State) :
    regMapped r s = true ↔
      ∀ b : Fin 8, r = .bufstat b ∨ r = .buftag b ∨ r = .bufline b → b.val < s.params.nbuf := by
  cases r with
  | bufstat b | buftag b | bufline b => simp [regMapped, hasBuf_iff]
  | _ => simp [regMapped]

theorem readReg_of_mapped (r : HostReg) (s : State) (h : regMapped r s = true) :
    readReg r s = .next (finishRead (regValue r s) s) := if_pos h

theorem readReg_of_unmapped (r : HostReg) (s : State) (h : ¬regMapped r s = true) :
    readReg r s = .next (finishRead 0 (raise .badAccess s)) := if_neg h

/-- Settles O45: the register is mapped, or it is a per-buffer register of a missing buffer. -/
theorem registerReadsReturnTheirValue : Obligations.RegisterReadsReturnTheirValue := by
  intro r s
  refine ⟨fun hexists => ?_, fun b hb hmissing => ?_⟩
  · rw [exec_ofRead, readReg_of_mapped r s ((regMapped_iff r s).mpr hexists)]
    rfl
  · rw [exec_ofRead, readReg_of_unmapped r s fun hm => hmissing ((regMapped_iff r s).mp hm b hb)]
    rfl

/-! ### Register writes (R272 to R276) -/

/-- A write that the register refuses is refused alike where the register is unmapped (R87, R273). -/
theorem writeReg_of_refused (r : HostReg) (d : Word) (s : State) (h : regWrite r d s = raise .badAccess s) :
    writeReg r d s = .next (dispatchFill (raise .badAccess s)) := by
  rw [writeReg, h, ite_self]

/-- Settles O47: none of the registers named has a write of its own. -/
theorem readOnlyRegistersRefuseWrites : Obligations.ReadOnlyRegistersRefuseWrites := by
  intro d s r hr
  have hrefused : regWrite r d s = raise .badAccess s := by
    obtain hr | ⟨b, rfl | rfl | rfl⟩ := hr
    · simp only [List.mem_cons, List.not_mem_nil, or_false] at hr
      obtain rfl | rfl | rfl | rfl | rfl | rfl | rfl | rfl | rfl | rfl := hr <;> rfl
    all_goals rfl
  rw [exec_ofWrite, writeReg_of_refused r d s hrefused]
  rfl

/-- ERR is mapped in every state, and its write clears in every driver state (R274). -/
theorem exec_hwrErr (d : Word) (s : State) : exec (.hwrErr d) s = .next (dispatchFill (errWrite d s)) := rfl

/-- Write-one-to-clear of one sticky bit (R274). -/
theorem sticky_and_not_eq_ite (sticky one : Bool) : (sticky && !one) = if one then false else sticky := by
  cases one with
  | false => exact Bool.and_true sticky
  | true => exact Bool.and_false sticky

/-- Settles O48: each sticky bit is written with one to clear. -/
theorem errWriteClearsOnes : Obligations.ErrWriteClearsOnes := by
  intro d s
  rw [exec_hwrErr, errWrite]
  simp only [sticky_and_not_eq_ite]

/-- While rastering a mode register is not written (R276). -/
theorem modeWrite_rastering (r : HostReg) (d : Word) (s : State) (h : s.ctl.drv = .rastering) :
    modeWrite r d s = raise .badState s := if_pos h

/-- Settles O50: the write of a mode register is the refused one. -/
theorem modeWriteRefusedWhileRastering : Obligations.ModeWriteRefusedWhileRastering := by
  intro d s r hr hdrv
  rw [exec_ofWrite_modeReg hr, modeWrite_rastering r d s hdrv]
  rfl

/-! ### Host-bus words by address (R115, R271, R272) -/

/-- The operation a write decodes to has the effect of the rule: for the reserved size, for a target with a row of its own,
and for any other target (R272). -/
theorem exec_decodeHwr (sz : BitVec 2) (a : Addr) (d : Word) (s : State) :
    exec (decodeHwr sz a d) s = .next (hostWrite sz a d s) := by
  obtain rfl | ⟨n, rfl⟩ := Size.code_cases sz
  · rfl
  cases hc : coveredTarget n a with
  | true => exact (exec_hwr_covered n a d s hc).symm
  | false =>
    rw [decodeHwr_uncovered n a d hc]
    rfl

/-- Settles O7: the word decodes by its size and address, and what it decodes to follows the rule. -/
theorem hostWriteFollowsAddressDecode : Obligations.HostWriteFollowsAddressDecode := by
  intro sz a d s
  rw [decode, decodeTxn_hwr (txnOp_txnWord ..), txnSz_txnWord, txnAddr_txnWord, txnData_txnWord]
  exact exec_decodeHwr sz a d s

/-- A read of the window answers by the rule, whether or not the buffer exists (R243, R271). -/
theorem readWindow_eq_hostRead (n : Size) (a : Addr) (s : State) (hw : inWindow a = true) :
    readWindow (windowBuf a) n (windowOff a) s = .next (hostRead n.code a s) := by
  have hlow := inWindow_not_low a hw
  cases hb : s.hasBuf (windowBuf a) with
  | false => simp [hostRead, hw, hlow, readWindow, windowReadError, hb]
  | true =>
    cases hc : windowCheck (windowBuf a) (windowOff a) n s with
    | none => simp [hostRead, hw, hlow, readWindow, windowReadError, windowValue, hb, hc]
    | some e => simp [hostRead, hw, hlow, readWindow, windowReadError, hb, hc]

/-- A word read at a register's offset answers by the rule, whether or not the register is mapped (R270, R271). -/
theorem readReg_eq_hostRead (r : HostReg) (s : State) :
    readReg r s = .next (hostRead Size.word.code r.offset s) := by
  obtain ⟨hlow, halign⟩ := r.offset_low
  cases hm : regMapped r s with
  | false => simp [hostRead, hlow, halign, mappedReg, readReg, hm]
  | true => simp [hostRead, hlow, halign, mappedReg, readReg, hm]

/-- The operation a read decodes to has the effect of the rule: for the reserved size, in the window, at a register's offset,
and at any other target (R271). -/
theorem exec_decodeHrd (sz : BitVec 2) (a : Addr) (s : State) :
    exec (decodeHrd sz a) s = .next (hostRead sz a s) := by
  obtain rfl | ⟨n, rfl⟩ := Size.code_cases sz
  · rfl
  cases hc : coveredTarget n a with
  | false =>
    rw [decodeHrd_uncovered n a hc]
    rfl
  | true =>
    cases hw : inWindow a with
    | true =>
      have hdecode : decodeHrd n.code a = Instr.ofWindowRead n (windowOff a) (windowBuf a) := by simp [decodeHrd, hw]
      rw [hdecode, exec_ofWindowRead, readWindow_eq_hostRead n a s hw]
    | false =>
      simp only [coveredTarget, hw, Bool.false_or, Bool.and_eq_true, decide_eq_true_eq, Option.isSome_iff_exists] at hc
      obtain ⟨rfl, r, hr⟩ := hc
      rw [← HostReg.offset_of_ofOffset? a r hr, decodeHrd_register, exec_ofRead, readReg_eq_hostRead]

/-- Settles O8: the word decodes by its size and address, and what it decodes to follows the rule. -/
theorem hostReadFollowsAddressDecode : Obligations.HostReadFollowsAddressDecode := by
  intro sz a d s
  rw [decode, decodeTxn_hrd (txnOp_txnWord ..), txnSz_txnWord, txnAddr_txnWord]
  exact exec_decodeHrd sz a s

end Sys2Proof.Machine
end

section
/-! PROOF. The commands of the front end (43_front_end.md R279 to R290, 41_resync_arbiter.md R215): the command a word names,
the mode check, and what each command does in each driver state. -/

namespace Sys2Proof.Machine

/-! ### The command a word names (R279) -/

/-- Settles O6: a write to CMD is the command its word decodes to, whatever the code. -/
theorem commandWordPerformsItsCommand : Obligations.CommandWordPerformsItsCommand := by
  intro d s
  obtain ⟨t, ht, -⟩ := completes_decodeCmd d s
  have hnamed (c : Instr) (h : decodeCmd d = c) : exec c s = .next t := h ▸ ht
  exact ⟨t, (exec_hwrCmd d s).trans ht,
    fun h => hnamed .nop (by simp [decodeCmd, h]),
    fun h => hnamed .configure (by simp [decodeCmd, h]),
    fun h => hnamed .start (by simp [decodeCmd, h]),
    fun h => hnamed .stop (by simp [decodeCmd, h]),
    fun h => hnamed (.setOutput (d.getLsbD 8)) (decodeCmd_setOutput h),
    fun h => hnamed .injectLtSuppress (by simp [decodeCmd, h]),
    fun h => hnamed (.reservedCmd (cmdOp d)) (decodeCmd_reserved h)⟩

/-! ### The mode check and CONFIGURE (R282 to R284) -/

/-- The mode check, condition by condition; `vs_end ≤ VB` is said without the subtraction, since `L_VIS < L_TOTAL` (R282). -/
theorem modeOk_iff (m : Mode) : modeOk m = true ↔
    1 ≤ m.hsEnd.toNat ∧ m.hsEnd.toNat < m.bpEnd.toNat ∧ m.bpEnd.toNat < m.actEnd.toNat ∧
    m.actEnd.toNat < m.tLine.toNat ∧ 1 ≤ m.lVis.toNat ∧ m.lVis.toNat < m.lTotal.toNat ∧
    m.vsStart.toNat < m.vsEnd.toNat ∧ m.vsEnd.toNat + m.lVis.toNat ≤ m.lTotal.toNat ∧
    1 ≤ m.saDiv.toNat ∧ 1 ≤ m.saPhase.toNat ∧ m.saPhase.toNat < m.tLine.toNat := by
  simp only [modeOk, Bool.and_eq_true, decide_eq_true_eq]
  unfold vb
  omega

/-- Settles O54: the check reads none of the free fields, and the regions are the gaps between rising marks. -/
theorem modeCheckIsTheRule : Obligations.ModeCheckIsTheRule := by
  intro m
  refine ⟨modeOk_iff m, fun _ _ _ => rfl, fun h => ?_⟩
  obtain ⟨hsync, hback, hactive, hfront, -⟩ := ModeRanges.of_modeOk h
  omega

theorem exec_configure (s : State) : exec .configure s = .next (dispatchFill (cmdConfigure s)) := rfl

/-- Settles O53, by the branches of CONFIGURE in their order. -/
theorem configureChecksInOrder : Obligations.ConfigureChecksInOrder := by
  intro s
  rw [exec_configure, cmdConfigure]
  refine ⟨fun hdrv => ?_, fun hdrv hmode => ?_, fun hdrv hmode hperiph => ?_, fun hdrv hmode hperiph => ?_⟩
  · rw [if_pos hdrv]
    rfl
  · rw [if_neg hdrv, if_pos hmode]
  · rw [if_neg hdrv, if_neg (by simp [hmode]), if_pos hperiph]
  · rw [if_neg hdrv, if_neg (by simp [hmode]), if_neg (by simp [hperiph])]

/-! ### Operations with one effect (R280, R281, R289, R215, R299) -/

theorem exec_injectLtSuppress_refused (s : State) (h : s.ctl.drv ≠ .rastering) :
    exec .injectLtSuppress s = .next (dispatchFill (raise .badState s)) :=
  congrArg (fun u => Host.Outcome.next (dispatchFill u)) (if_neg h)

/-- Settles O57: the one effect of each operation; INJECT_LT_SUPPRESS alone has two cases. -/
theorem simpleOperationsDoOneThing : Obligations.SimpleOperationsDoOneThing := fun s =>
  ⟨rfl, fun _ => rfl, fun _ => rfl, fun _ => rfl, exec_injectLtSuppress_rastering s, exec_injectLtSuppress_refused s⟩

/-! ### START (R285) -/

/-- The Dispatch of the write to CMD repeats that of START (R272, R285). -/
theorem exec_start_begins (s : State) (h : s.ctl.drv = .configured ∨ s.ctl.drv = .stopped) :
    exec .start s = .next (dispatchFill (startRaster s)) := by
  show Host.Outcome.next (dispatchFill (cmdStart s)) = _
  rw [cmdStart, if_pos h, dispatchFill_idem]

theorem exec_start_refused (s : State) (h : s.ctl.drv = .uninit ∨ s.ctl.drv = .rastering) :
    exec .start s = .next (dispatchFill (raise .badState s)) := by
  show Host.Outcome.next (dispatchFill (cmdStart s)) = _
  rw [cmdStart, if_neg (by obtain h | h := h <;> simp [h])]

/-- The request START makes, or the waiting request it drops (R163, R285). -/
theorem startRaster_rm (s : State) : (startRaster s).rm =
    if vb s.mode = 1 then { s.rm with pend := true, pendSeq := 1, pendLine := 0 } else { s.rm with pend := false } := rfl

theorem vb_eq_one_iff (m : Mode) : vb m = 1 ↔ m.lTotal.toNat = m.lVis.toNat + 1 := by
  unfold vb
  omega

theorem startRaster_rm_one_blank (s : State) (h : s.mode.lTotal.toNat = s.mode.lVis.toNat + 1) :
    (startRaster s).rm = { s.rm with pend := true, pendSeq := 1, pendLine := 0 } := by
  rw [startRaster_rm, if_pos ((vb_eq_one_iff s.mode).mpr h)]

theorem startRaster_rm_more_blanks (s : State) (h : s.mode.lTotal.toNat ≠ s.mode.lVis.toNat + 1) :
    (startRaster s).rm = { s.rm with pend := false } := by
  rw [startRaster_rm, if_neg fun hvb => h ((vb_eq_one_iff s.mode).mp hvb)]

theorem startRaster_buf (s : State) (b : Fin 8) (hb : b.val < s.params.nbuf) :
    (startRaster s).buf b = freeReady (s.buf b) :=
  (mapBufs_buf freeReady _ b).trans (if_pos ((hasBuf_iff s b).mpr hb))

/-- Freeing READY buffers makes FREE those that are FREE or READY (R285). -/
theorem freeReady_free_iff (x : Buf) : (freeReady x).own = .free ↔ x.own = .free ∨ x.own = .ready := by
  unfold freeReady
  by_cases h : x.own = .ready
  · simp [h]
  · simp [h]

theorem freeReady_vrange (x : Buf) : (freeReady x).vrange = x.vrange := by
  unfold freeReady
  split <;> rfl

theorem startRaster_free_iff (s : State) (b : Fin 8) (hb : b.val < s.params.nbuf) :
    ((startRaster s).buf b).own = .free ↔ (s.buf b).own = .free ∨ (s.buf b).own = .ready := by
  rw [startRaster_buf s b hb, freeReady_free_iff]

/-- START's request waits while a fill is in service or no buffer can take it (R232, R285). -/
theorem dispatchFill_startRaster_waits (s : State)
    (h : s.rm.busy = true ∨ ∀ b : Fin 8, b.val < s.params.nbuf → (s.buf b).own ≠ .free ∧ (s.buf b).own ≠ .ready) :
    dispatchFill (startRaster s) = startRaster s := by
  obtain hbusy | hnone := h
  · refine dispatchFill_of_busy _ ?_
    rw [startRaster_rm]
    split <;> exact hbusy
  · refine dispatchFill_of_no_free _ fun b hb hfree => ?_
    rw [startRaster_hasBuf, hasBuf_iff] at hb
    exact not_or.mpr (hnone b hb) ((startRaster_free_iff s b hb).mp hfree)

/-- START's request goes to the least buffer that is FREE or was READY (R234, R285). -/
theorem dispatchFill_startRaster_serves (s : State) (b : Fin 8) (hone : s.mode.lTotal.toNat = s.mode.lVis.toNat + 1)
    (hbusy : s.rm.busy = false) (hb : b.val < s.params.nbuf) (hfree : (s.buf b).own = .free ∨ (s.buf b).own = .ready)
    (hleast : ∀ c : Fin 8, c < b → (s.buf c).own ≠ .free ∧ (s.buf c).own ≠ .ready) :
    dispatchFill (startRaster s) = dispatchTo b (startRaster s) := by
  have hrm := startRaster_rm_one_blank s hone
  refine dispatchFill_of_least_free _ b (by rw [hrm]) (by rw [hrm]; exact hbusy) ?_
    ((startRaster_free_iff s b hb).mpr hfree) fun c hc hfreec => ?_
  · rw [startRaster_hasBuf]
    exact (hasBuf_iff s b).mpr hb
  · have hcn : c.val < s.params.nbuf := Nat.lt_trans hc hb
    exact not_or.mpr (hleast c hc) ((startRaster_free_iff s c hcn).mp hfreec)

/-- Settles O55: Dispatch leaves what START left but for the request, which is dropped, waits, or is served. -/
theorem startBeginsARaster : Obligations.StartBeginsARaster := by
  intro s
  refine ⟨exec_start_refused s, fun hdrv => ⟨dispatchFill (startRaster s), exec_start_begins s hdrv, ?_⟩⟩
  rw [dispatchFill_ctl, dispatchFill_tmr, dispatchFill_ln, dispatchFill_mode, dispatchFill_err, dispatchFill_xfer]
  refine ⟨rfl, rfl, rfl, rfl, rfl, rfl, fun b o => readByte_dispatchFill _ b o, fun hmore => ?_,
    fun hone => ⟨fun hwaits => ?_, fun b hbusy hb hfree hleast => ?_⟩⟩
  · have hrm := startRaster_rm_more_blanks s hmore
    rw [dispatchFill_of_no_request _ (by rw [hrm])]
    exact ⟨hrm, rfl, startRaster_buf s⟩
  · rw [dispatchFill_startRaster_waits s hwaits]
    exact ⟨startRaster_rm_one_blank s hone, rfl, startRaster_buf s⟩
  · rw [dispatchFill_startRaster_serves s b hone hbusy hb hfree hleast, dispatchTo_rm, dispatchTo_events, dispatchTo_buf,
      if_pos rfl, startRaster_rm_one_blank s hone, startRaster_buf s b hb]
    refine ⟨rfl, rfl, by rw [← freeReady_vrange (s.buf b)], fun c hc hne => ?_⟩
    rw [dispatchTo_buf, if_neg hne]
    exact startRaster_buf s c hc

/-! ### STOP (R287) -/

/-- With its request cleared, neither Dispatch of STOP does anything (R232, R287). -/
theorem exec_stop_ends (s : State) (h : s.ctl.drv = .rastering) : exec .stop s = .next (stopRaster s) := by
  show Host.Outcome.next (dispatchFill (cmdStop s)) = _
  rw [cmdStop, if_pos h, dispatchFill_idem, dispatchFill_of_no_request (stopRaster s) rfl]

theorem exec_stop_refused (s : State) (h : s.ctl.drv ≠ .rastering) :
    exec .stop s = .next (dispatchFill (raise .badState s)) := by
  show Host.Outcome.next (dispatchFill (cmdStop s)) = _
  rw [cmdStop, if_neg h]

/-- Ending the transfer leaves its buffer index and length (R287). -/
theorem stopTransfer_xfer (s : State) : (stopTransfer s).xfer = { s.xfer with xst := .idle } := by
  unfold stopTransfer
  cases h : s.xfer.xst with
  | idle => exact congrArg (Transfer.mk · s.xfer.xbuf s.xfer.xlen) h
  | armed => rfl
  | streaming => rfl

/-- Only a streaming transfer is reported stopped (R287). -/
theorem stopTransfer_events (s : State) :
    (stopTransfer s).events = s.events ++ (if s.xfer.xst = .streaming then [.dmaStop s.xfer.xbuf] else []) := by
  unfold stopTransfer
  cases h : s.xfer.xst with
  | idle => simp
  | armed => simp
  | streaming => rfl

theorem stopTransfer_buf (s : State) (b : Fin 8) : (stopTransfer s).buf b =
    if s.xfer.xst ≠ .idle ∧ b = s.xfer.xbuf then { s.buf b with own := .free } else s.buf b := by
  obtain ⟨hidle, he⟩ | ⟨hx, -, hbuf⟩ := stopTransfer_cases s
  · rw [he, if_neg fun h => h.1 hidle]
  · rw [hbuf]
    by_cases hb : b = s.xfer.xbuf
    · rw [if_pos hb, if_pos ⟨hx, hb⟩, hb]
    · rw [if_neg hb, if_neg fun h => hb h.2]

theorem stopRaster_buf (s : State) (b : Fin 8) (hb : b.val < s.params.nbuf) :
    (stopRaster s).buf b = stopBuf ((stopTransfer s).buf b) :=
  (mapBufs_buf stopBuf _ b).trans (if_pos (by rw [stopTransfer_hasBuf]; exact (hasBuf_iff s b).mpr hb))

/-- Settles O56: STOP ends the transfer, and then frees READY buffers and marks FILLING ones. -/
theorem stopEndsTheRaster : Obligations.StopEndsTheRaster := by
  intro s
  refine ⟨exec_stop_refused s, fun hdrv => ⟨stopRaster s, exec_stop_ends s hdrv, ?_⟩⟩
  refine ⟨by simp [stopRaster], by simp [stopRaster], by simp [stopRaster], by simp [stopRaster], stopTransfer_events s,
    stopTransfer_xfer s, stopRaster_mode s, stopRaster_err s, stopRaster_mem s, fun b hb => ?_⟩
  rw [stopRaster_buf s b hb, stopTransfer_buf]
  split
  · rfl
  · rfl

end Sys2Proof.Machine
end

section
/-! PROOF. The error bits (60_exceptions.md R320 to R324, R336): what each operation may do to the sticky bits, said once,
and from it that one operation raises at most one bit, that a bit stands until it is cleared, and that the timers, the
handlers and the environment raise nothing. -/

namespace Sys2Proof.Machine

/-! ### Operations that raise nothing (R336) -/

@[simp] theorem tick_err (s : State) : (tick s).err = s.err := by unfold tick; split <;> simp
@[simp] theorem servedShock_err (s : State) : (servedShock s).err = s.err := by unfold servedShock; split <;> rfl
@[simp] theorem finishDma_err (v : Byte) (s : State) : (finishDma v s).err = s.err := by simp [finishDma]
@[simp] theorem finishDma_ctl (v : Byte) (s : State) : (finishDma v s).ctl = s.ctl := by simp [finishDma]
@[simp] theorem finishDma_mode (v : Byte) (s : State) : (finishDma v s).mode = s.mode := by simp [finishDma]

/-- A DMA read that answers a next state returns some byte (R246). -/
theorem exec_drd_next (o : Addr) (s t : State) (h : exec (.drd o) s = .next t) : ∃ v, t = finishDma v s := by
  by_cases hits : dmaHits o s = true
  · by_cases hbyte : dmaByteExists o s = true
    · rw [exec_drd_streamed o s hits hbyte] at h
      exact ⟨_, (Host.Outcome.next.inj h).symm⟩
    · rw [exec_drd_missing o s hits hbyte] at h
      nomatch h
  · rw [exec_drd_outside o s hits] at h
    exact ⟨_, (Host.Outcome.next.inj h).symm⟩

/-- Settles O22, operation by operation: the stages of each leave the error bits and the mode, and change at most `hsm` and
`periph` of the control state. -/
theorem handlersAndTimersRaiseNothing : Obligations.HandlersAndTimersRaiseNothing := by
  intro i s t hi h
  obtain rfl | rfl | rfl | ⟨o, rfl⟩ | ⟨v, rfl⟩ := hi
  · cases h
    exact ⟨tick_err s, by rw [tick_ctl], tick_mode s⟩
  · obtain ⟨-, rfl⟩ := (execLtsvc_next s t).mp h
    rw [lineService_eq, dispatchFill_err, dispatchFill_ctl, dispatchFill_mode, servedLine_ctl]
    exact ⟨servedLine_err s, rfl, servedLine_mode s⟩
  · obtain ⟨-, rfl⟩ := (execSasvc_next s t).mp h
    rw [shockService_eq, dispatchFill_err, dispatchFill_ctl, dispatchFill_mode, servedShock_ctl]
    exact ⟨servedShock_err s, rfl, servedShock_mode s⟩
  · obtain ⟨v, rfl⟩ := exec_drd_next o s t h
    exact ⟨finishDma_err v s, by rw [finishDma_ctl], finishDma_mode v s⟩
  · cases h
    rw [dispatchFill_err, dispatchFill_ctl, dispatchFill_mode]
    exact ⟨rfl, rfl, rfl⟩

/-! ### What an operation may do to the error bits -/

/-- How operation `i`, taken in `s`, may leave the error bits of `t`: as they were, with one bit raised (R321), with the ones
of a data word cleared (R274), or all clear (R361). The write that clears is spelled as one to ERR, unless a plain HWR stands
for it that no word decodes to. -/
inductive ErrChange (i : Instr) (s t : State) : Prop
  | kept (h : t.err = s.err)
  | raised (e : ErrBit) (h : t.err = (raise e s).err)
  | cleared (d : Word) (hi : i.wellFormed = true → i = .hwrErr d) (h : t.err = (errWrite d s).err)
  | reset (hi : i = .rst) (h : t.err = .reset)

section
variable {i : Instr} {s t u : State}

theorem ErrChange.congr (h : ErrChange i s u) (ht : t.err = u.err) : ErrChange i s t := by
  cases h with
  | kept h => exact .kept (ht.trans h)
  | raised e h => exact .raised e (ht.trans h)
  | cleared d hi h => exact .cleared d hi (ht.trans h)
  | reset hi h => exact .reset hi (ht.trans h)

/-- Dispatch raises nothing (R232). -/
theorem ErrChange.dispatch (h : ErrChange i s u) : ErrChange i s (dispatchFill u) := h.congr (dispatchFill_err u)

/-- An operation that answers an error change and its Dispatch. -/
theorem ErrChange.of_next (h : Host.Outcome.next (dispatchFill u) = (.next t : Result)) (hu : ErrChange i s u) :
    ErrChange i s t := by
  cases h
  exact hu.dispatch

/-! #### Host-bus reads (R271) -/

theorem errChange_finishRead (v : Word) : ErrChange i s (finishRead v s) := .kept (finishRead_err v s)

theorem errChange_refusedRead (v : Word) (e : ErrBit) : ErrChange i s (finishRead v (raise e s)) :=
  .raised e (finishRead_err v _)

theorem errChange_hostRead (sz : BitVec 2) (a : Addr) : ErrChange i s (hostRead sz a s) := by
  unfold hostRead
  split
  · exact errChange_refusedRead _ _
  · split
    · split
      · exact errChange_refusedRead _ _
      · split
        · exact errChange_finishRead _
        · exact errChange_refusedRead _ _
    · split
      · split
        · exact errChange_refusedRead _ _
        · exact errChange_finishRead _
      · exact errChange_refusedRead _ _

theorem errChange_readWindow (b : Fin 8) (n : Size) (o : BitVec 12) (h : readWindow b n o s = .next t) :
    ErrChange i s t := by
  unfold readWindow at h
  split at h
  · cases h
    exact errChange_refusedRead _ _
  · cases h
    exact errChange_finishRead _

/-! #### Commands (R279 to R290) -/

theorem errChange_cmdConfigure : ErrChange i s (cmdConfigure s) := by
  unfold cmdConfigure
  split_ifs
  · exact .raised .badState rfl
  all_goals exact .kept rfl

theorem errChange_cmdStart : ErrChange i s (cmdStart s) := by
  unfold cmdStart
  split_ifs
  · exact .dispatch (.kept (startRaster_err s))
  · exact .raised .badState rfl

theorem errChange_cmdStop : ErrChange i s (cmdStop s) := by
  unfold cmdStop
  split_ifs
  · exact .dispatch (.kept (stopRaster_err s))
  · exact .raised .badState rfl

theorem errChange_cmdInjectLtSuppress : ErrChange i s (cmdInjectLtSuppress s) := by
  unfold cmdInjectLtSuppress
  split_ifs
  · exact .kept rfl
  · exact .raised .badState rfl

theorem errChange_cmdWrite (d : Word) : ErrChange i s (cmdWrite d s) := by
  unfold cmdWrite
  split_ifs
  · exact .kept rfl
  · exact errChange_cmdConfigure
  · exact errChange_cmdStart
  · exact errChange_cmdStop
  · exact .kept rfl
  · exact errChange_cmdInjectLtSuppress
  · exact .raised .badCmd rfl

/-! #### Host-bus writes (R272) -/

/-- The end of a fill raises `e_clamped` where the declared range is clamped (R236). -/
theorem errChange_finishFill (vr : Word) : ErrChange i s (finishFill vr s) := by
  rw [finishFill_eq]
  by_cases hclamp : s.params.bufBytes < vr.toNat
  · exact .raised .clamped (by simp [raise, hclamp])
  · exact .kept (by simp [hclamp])

theorem errChange_rmDone (vr : Word) : ErrChange i s (rmDone vr s) := by
  refine .dispatch ?_
  split
  · exact errChange_finishFill vr
  · exact .raised .ownViol rfl

theorem errChange_modeWrite (r : HostReg) (d : Word) : ErrChange i s (modeWrite r d s) := by
  unfold modeWrite
  split
  · exact .raised .badState rfl
  · exact .kept rfl

/-- Of the registers only ERR clears error bits (R274). -/
theorem errChange_regWrite (r : HostReg) (d : Word) (hi : r = .err → i.wellFormed = true → i = .hwrErr d) :
    ErrChange i s (regWrite r d s) := by
  cases r with
  | cmd => exact errChange_cmdWrite d
  | err => exact .cleared d (hi rfl) rfl
  | rmDone => exact errChange_rmDone d
  | htim0 | htim1 | vtim0 | vtim1 | syncSa | saTol => exact errChange_modeWrite _ d
  | _ => exact .raised .badAccess rfl

theorem errChange_ofWrite (d : Word) (r : HostReg) (hi : r = .err → i.wellFormed = true → i = .hwrErr d)
    (h : exec (Instr.ofWrite d r) s = .next t) : ErrChange i s t := by
  rw [exec_ofWrite, writeReg] at h
  split at h
  · exact .of_next h (errChange_regWrite r d hi)
  · exact .of_next h (.raised .badAccess rfl)

theorem errChange_ofWindowWrite (n : Size) (o : BitVec 12) (d : Word) (b : Fin 8)
    (h : exec (Instr.ofWindowWrite n o d b) s = .next t) : ErrChange i s t := by
  rw [exec_ofWindowWrite] at h
  refine .of_next h ?_
  obtain ⟨e, hw⟩ | ⟨-, -, hw⟩ := windowWrite_cases b o n d s
  · exact .raised e (by rw [hw])
  · exact .kept (by rw [hw, bufWrite_eq])

/-- A plain HWR is a refused access, or means what the row of its target means (R272; log entry 9). -/
theorem errChange_hwr (n : Size) (a : Addr) (d : Word) (h : exec (.hwr n a d) s = .next t) :
    ErrChange (.hwr n a d) s t := by
  cases hc : coveredTarget n a with
  | false =>
    rw [exec_hwr_uncovered n a d s hc] at h
    exact .of_next h (.raised .badAccess rfl)
  | true =>
    rw [exec_hwr_covered n a d s hc] at h
    obtain hrow | ⟨r, hrow⟩ := decodeHwr_covered n a d hc
    · exact errChange_ofWindowWrite _ _ _ _ (hrow ▸ h)
    · exact errChange_ofWrite d r (fun _ hw => by simp [Instr.wellFormed, hc] at hw) (hrow ▸ h)

/-! #### Every operation -/

/-- What an operation may do to the error bits. Every proof about the bits of all operations goes
through this lemma. -/
theorem exec_errChange (i : Instr) (s t : State) (h : exec i s = .next t) : ErrChange i s t := by
  have hsilent {j : Instr} (hj : j = .tick ∨ j = .ltsvc ∨ j = .sasvc ∨ (∃ o, j = .drd o) ∨ ∃ v, j = .periph v)
      (hn : exec j s = .next t) : ErrChange j s t := .kept (handlersAndTimersRaiseNothing j s t hj hn).1
  induction i using Instr.byTarget with
  | tick => exact hsilent (.inl rfl) h
  | ltsvc => exact hsilent (.inr (.inl rfl)) h
  | sasvc => exact hsilent (.inr (.inr (.inl rfl))) h
  | drd o => exact hsilent (.inr (.inr (.inr (.inl ⟨o, rfl⟩)))) h
  | periph v => exact hsilent (.inr (.inr (.inr (.inr ⟨v, rfl⟩)))) h
  | rst => exact .reset rfl (by rw [exec_rst s t h]; rfl)
  | reservedOp c => nomatch h
  | hwr n a d => exact errChange_hwr n a d h
  | hwrSz3 => exact .of_next h (.raised .badAccess rfl)
  | ofWrite d r => exact errChange_ofWrite d r (fun hr _ => hr ▸ rfl) h
  | ofWindowWrite n o d b => exact errChange_ofWindowWrite n o d b h
  | hrd n a =>
    cases h
    exact errChange_hostRead n.code a
  | hrdSz3 =>
    cases h
    exact errChange_refusedRead _ _
  | ofRead r =>
    rw [exec_ofRead, readReg_eq_hostRead] at h
    cases h
    exact errChange_hostRead _ _
  | ofWindowRead n o b => exact errChange_readWindow b n o (exec_ofWindowRead n o b s ▸ h)
  | nop => exact .of_next h (.kept rfl)
  | configure => exact .of_next h errChange_cmdConfigure
  | start => exact .of_next h errChange_cmdStart
  | stop => exact .of_next h errChange_cmdStop
  | setOutput v => exact .of_next h (.kept rfl)
  | injectLtSuppress => exact .of_next h errChange_cmdInjectLtSuppress
  | reservedCmd c => exact .of_next h (.raised .badCmd rfl)

/-! ### Bit by bit -/

/-- The bit of ERR at which a sticky error stands (R67, R270). -/
def errPos : ErrBit → Nat
  | .badState => 8
  | .badCmd => 9
  | .ownViol => 10
  | .bounds => 11
  | .clamped => 12
  | .badAccess => 13

theorem errBit_errWrite (d : Word) (s : State) (e : ErrBit) :
    errBit (errWrite d s) e = (errBit s e && !d.getLsbD (errPos e)) := by cases e <;> rfl

theorem errBit_of_err_reset (h : t.err = .reset) (e : ErrBit) : errBit t e = false := by
  cases e <;> simp [errBit, h, ErrBits.reset]

/-- A bit that an error change sets is the one it raises. -/
theorem ErrChange.set_unique (h : ErrChange i s t) :
    ∃ e, ∀ f, errBit s f = false → errBit t f = true → f = e := by
  cases h with
  | raised e h =>
    refine ⟨e, fun f hclear hset => ?_⟩
    rw [errBit_congr t _ h, errBit_raise, hclear, Bool.or_false] at hset
    exact of_decide_eq_true hset
  | kept h =>
    refine ⟨.badState, fun f hclear hset => ?_⟩
    rw [errBit_congr t s h, hclear] at hset
    nomatch hset
  | cleared d hi h =>
    refine ⟨.badState, fun f hclear hset => ?_⟩
    rw [errBit_congr t _ h, errBit_errWrite, hclear] at hset
    nomatch hset
  | reset hi h =>
    refine ⟨.badState, fun f hclear hset => ?_⟩
    rw [errBit_of_err_reset h f] at hset
    nomatch hset

/-- A bit that an error change clears is cleared by RST, or by the one written at its position of ERR. -/
theorem ErrChange.clear_cases (h : ErrChange i s t) (hw : i.wellFormed = true) (e : ErrBit) (hset : errBit s e = true)
    (hclear : errBit t e = false) : i = .rst ∨ ∃ d, i = .hwrErr d ∧ d.getLsbD (errPos e) = true := by
  cases h with
  | kept h =>
    rw [errBit_congr t s h, hset] at hclear
    nomatch hclear
  | raised f h =>
    rw [errBit_congr t _ h, errBit_raise, hset, Bool.or_true] at hclear
    nomatch hclear
  | cleared d hi h =>
    rw [errBit_congr t _ h, errBit_errWrite, hset, Bool.true_and, Bool.not_eq_false'] at hclear
    exact .inr ⟨d, hi hw, hclear⟩
  | reset hi h => exact .inl hi

end

/-! ### The obligations on all operations -/

/-- Settles O20: two bits newly set are both the one the operation raises. -/
theorem atMostOneErrorPerOperation : Obligations.AtMostOneErrorPerOperation := by
  intro i s t h e f he he' hf hf'
  obtain ⟨g, hg⟩ := (exec_errChange i s t h).set_unique
  exact (hg e he he').trans (hg f hf hf').symm

/-- Settles O21: of the changes an operation may make to the error bits, RST and the write to ERR alone clear one. -/
theorem errorBitsStickUntilCleared : Obligations.ErrorBitsStickUntilCleared := by
  intro i s t hw h e hset hclear
  refine ((exec_errChange i s t h).clear_cases hw e hset hclear).imp_right ?_
  rintro ⟨d, hi, hone⟩
  refine ⟨d, hi, ?_⟩
  cases e <;> exact hone

end Sys2Proof.Machine
end

section
/-! PROOF. Reset (70_reset_and_hazards.md R360, R361): what the registers read and the level outputs show after a reset with
any parameters, any draw, any events and any schedule, and the two obligations on the reset state and on RST. -/

namespace Sys2Proof.Machine

/-! ### Register words after reset -/

@[simp] theorem field_of_zero (w k : Nat) : field w 0#w k = 0#32 := by simp [field]

@[simp] theorem bitField_false (k : Nat) : bitField false k = 0#32 := field_of_zero 1 k

/-- Of the fields of STATUS only `periph`, bit 11, is set after reset (R49, R270): every other flag and code is 0. -/
theorem statusWord_resetWith (p : Params) (n : Nat) (evs : List Event) (ins : List OpWord) :
    statusWord (State.resetWith p n evs ins) = bitField true 11 := by
  simp [statusWord, State.resetWith, Control.reset, LineState.reset, Timers.reset, Transfer.reset, Handshake.reset,
    drvCode, hsmCode, regionCode, xstCode]

/-- Every register but ID, PARAM and STATUS reads 0 after reset (R360), the command registers because they always do, the
others because each field they show is 0. -/
theorem regValue_resetWith (p : Params) (n : Nat) (evs : List Event) (ins : List OpWord) (r : HostReg)
    (hid : r ≠ .id) (hparam : r ≠ .param) (hstatus : r ≠ .status) :
    regValue r (State.resetWith p n evs ins) = 0 := by
  cases r with
  | id => exact absurd rfl hid
  | param => exact absurd rfl hparam
  | status => exact absurd rfl hstatus
  | cmd | rmDone => rfl
  | err => simp [regValue, errWord, State.resetWith, Control.reset, ErrBits.reset, cfgErrCode]
  | rmReq => simp [regValue, State.resetWith, Handshake.reset]
  | htim0 | htim1 | vtim0 | vtim1 | syncSa | saTol => simp [regValue, State.resetWith, Mode.reset]
  | line | frame | seq | cnt => simp [regValue, State.resetWith, LineState.reset]
  | wdog | timer => simp [regValue, State.resetWith, Timers.reset]
  | bufstat b | buftag b | bufline b => simp [regValue, Buf.reset, ownCode]

/-! ### Level outputs outside rastering (R63) -/

theorem hsyncO_of_not_rastering (s : State) (h : s.ctl.drv ≠ .rastering) : hsyncO s = !s.mode.hsPol :=
  if_neg fun hr => h hr.1

theorem vsyncO_of_not_rastering (s : State) (h : s.ctl.drv ≠ .rastering) : vsyncO s = !s.mode.vsPol :=
  if_neg fun hr => h hr.1

/-! ### The obligations on reset -/

/-- Settles O10: the fields stand as the reset values are written, the registers follow from them, and with the driver
not rastering and both polarities 0 the sync outputs are at the opposite level. -/
theorem resetStateAndRegisters : Obligations.ResetStateAndRegisters := by
  have hdrv : State.reset.ctl.drv ≠ .rastering := nofun
  have hbuf (b : Fin 8) : State.reset.buf b = Buf.reset := resetWith_buf _ _ _ _ b
  refine ⟨rfl, rfl, rfl, rfl, rfl, rfl, hbuf, rfl, rfl, rfl, ?status, ?others, ?hsync, ?vsync, rfl, rfl⟩
  case status => exact statusWord_resetWith _ _ _ _
  case others => exact fun r _ => regValue_resetWith _ _ _ _ r
  case hsync => exact hsyncO_of_not_rastering _ hdrv
  case vsync => exact vsyncO_of_not_rastering _ hdrv

/-- Settles O11: RST answers the state after the next reset, with the parameters, events and schedule of the state it is
taken in (log entries 1, 3, 8); whatever that state held, its other fields are at their reset values. -/
theorem rstFromAnyState : Obligations.RstFromAnyState := by
  intro s
  refine ⟨State.resetWith s.params (s.draws + 1) s.events s.inputs, rfl, ?_⟩
  exact ⟨rfl, rfl, rfl, rfl, rfl, rfl, resetWith_buf _ _ _ _, rfl, rfl, rfl, rfl⟩

end Sys2Proof.Machine
end
